-- ==== Sys2Proof/Word.lean ====
section
/-! DEFINITION. The word types of the RS485 slave link core (spec R9, R20). -/

namespace Sys2Proof

/-- A wire field or a buffer byte (R9). Its addition is the spec's `+8`. -/
abbrev Byte := BitVec 8

/-- A 6-bit slave address (R9). -/
abbrev Addr := BitVec 6

/-- A declared size, a cursor or a data count (R9, R26, R28, R30). -/
abbrev Nibble := BitVec 4

/-- A push argument or a pop result (R82). -/
abbrev Word32 := BitVec 32

end Sys2Proof
end

