-- ==== Sys2Proof/Config.lean ====
section
/-! DEFINITION. What an implementation fixes (R7, R37, R183, R186) and the values the spec leaves free
(R230). -/

namespace Sys2Proof

/-- The configuration parameters of R7 that reach the engine as static inputs (R37).
`MY_ADDR` is computed from the first two (`Config.myAddr`). -/
structure ConfigInputs where
  /-- `BASE_ADDR`. -/
  baseAddr : Addr
  /-- `BOARD_SEL`, 0..3. -/
  boardSel : BitVec 2
  /-- `BAUD` in bits per second. -/
  baud : Nat
  /-- `SETTLE` in nanoseconds; no rule of the model depends on its length (R244). -/
  settleNs : Nat
deriving DecidableEq, Repr

/-- The whole configuration: the inputs, and the parameter that is fixed at build time (R37), which no input
carries. -/
structure Config extends ConfigInputs where
  /-- `P_NODATA_TRAILER`: 0 is its only legal value on this hardware (R37); true is the variant of a model of the
  literal firmware (spec/93 I16). -/
  noDataTrailer : Bool
deriving DecidableEq, Repr

/-- R7: `BASE_ADDR + BOARD_SEL` must be at most 63. -/
def Config.addressLegal (c : Config) : Bool := c.baseAddr.toNat + c.boardSel.toNat ≤ 63

/-- R7: `BAUD > 0` and `SETTLE` is at least 2 bit periods. An obligation on an implementation, which
no step reads (R244, log entry 11). -/
def Config.settleLegal (c : Config) : Bool := 0 < c.baud && 2000000000 ≤ c.settleNs * c.baud

/-- The four read commands of R183. -/
inductive Sensor where
  | a | b | c | d
deriving DecidableEq, Repr

/-- The OPEN parameters of the host model: the command codes the source does not give (R183; read-sensor-A
is 0x02) and `LITERAL_SIZE_BUG`, the read command, if any, that accepts every declared size (R186). -/
structure HostParams where
  cmdPing : Byte
  cmdInit : Byte
  cmdReadB : Byte
  cmdReadC : Byte
  cmdReadD : Byte
  cmdOutOn : Byte
  cmdOutOff : Byte
  literalSizeBug : Option Sensor
deriving DecidableEq, Repr

/-- The command codes are distinct from each other and from 0x02 (spec/92 D30). -/
def HostParams.codesDistinct (p : HostParams) : Prop :=
  [0x02#8, p.cmdPing, p.cmdInit, p.cmdReadB, p.cmdReadC, p.cmdReadD, p.cmdOutOn, p.cmdOutOff].Nodup

/-! The registers that hold no specified value after a reset (R230, spec/93 I6), as free values: nothing
constrains them. The argument is the number of the reset (`State.resets`, log entry 2). -/

opaque Config.freeCsum : Nat → Byte
opaque Config.freeCandAddr : Nat → Addr
opaque Config.freeCmdReg : Nat → Byte
opaque Config.freeSizeReg : Nat → Nibble
opaque Config.freeDcount : Nat → Nibble
opaque Config.freeAccCmd : Nat → Byte
opaque Config.freeAccSize : Nat → Nibble
opaque Config.freeTxCsum : Nat → Byte

end Sys2Proof
end

