-- ==== Sys2Proof/Syntax.lean ====
section
/-! DEFINITION. The instructions: one constructor per row of spec/opcode_table.json, the 14 host requests
(R83) and the 13 receive rows (R100). -/

namespace Sys2Proof

/-- A row of the opcode table with its operands. The receive rows carry the received byte, or the part
of it that their pattern leaves free. -/
inductive Instr where
  /-- POLL (R116). -/
  | poll
  /-- POP.U8 (R131). -/
  | popU8
  /-- POP.S8 (R132). -/
  | popS8
  /-- POP.U16 (R133). -/
  | popU16
  /-- POP.S16 (R134). -/
  | popS16
  /-- POP.U32 (R135). -/
  | popU32
  /-- POP.S32 (R136). -/
  | popS32
  /-- ACK (R160). -/
  | ack
  /-- PUSH.U8 (R141), `x` is `req_data`. -/
  | pushU8 (x : Word32)
  /-- PUSH.S8 (R142). -/
  | pushS8 (x : Word32)
  /-- PUSH.U16 (R143). -/
  | pushU16 (x : Word32)
  /-- PUSH.S16 (R144). -/
  | pushS16 (x : Word32)
  /-- PUSH.U32 (R145). -/
  | pushU32 (x : Word32)
  /-- PUSH.S32 (R146). -/
  | pushS32 (x : Word32)
  /-- RX_HDR (R101): the byte is 0xAA. -/
  | rxHdr
  /-- RX_SKIP (R102). -/
  | rxSkip (b : Byte)
  /-- RX_ADDR (R103), `a` is `b[5:0]`; `b[7:6]` is 0b10. -/
  | rxAddr (a : Addr)
  /-- RX_ADDR_BAD (R104). -/
  | rxAddrBad (b : Byte)
  /-- RX_CMD (R105). -/
  | rxCmd (b : Byte)
  /-- RX_SIZE0 (R106): the byte is 0xF0. -/
  | rxSize0
  /-- RX_SIZEN (R107), `n` is `b[3:0]`; `b[7:4]` is its complement. -/
  | rxSizeN (n : Nibble)
  /-- RX_SIZE_BAD (R108). -/
  | rxSizeBad (b : Byte)
  /-- RX_DATA (R109). -/
  | rxData (b : Byte)
  /-- RX_DATA_LAST (R110). -/
  | rxDataLast (b : Byte)
  /-- RX_CSUM_OK (R111). -/
  | rxCsumOk (b : Byte)
  /-- RX_CSUM_BAD (R112). -/
  | rxCsumBad (b : Byte)
  /-- RX_ADDR_MISS (R113). -/
  | rxAddrMiss (b : Byte)
deriving DecidableEq, Repr

end Sys2Proof
end

