-- ==== Sys2Proof/Decode.lean ====
section
/-! DEFINITION. The wire constants and formats (R8, R71-R77), the decoder of request codes and receive words
(R80-R85, R100), and after it the encoder. -/

namespace Sys2Proof

/-! ### Fixed constants (R8; named because the literals are unaudited, log entry 25) -/

def hdrCmd : Byte := 0xAA#8
def addrTag : BitVec 2 := 0b10#2
def ackNoData : Byte := 0x77#8
def ackData : Byte := 0x78#8
/-- The storage capacity of each buffer in bytes. -/
abbrev bufCap : Nat := 16
/-- The largest payload in either direction. -/
abbrev maxPayload : Nat := 15

/-! ### Wire formats -/

/-- The size byte of a declared size (R73): the size in the low nibble, its one's complement above. -/
def encSize (n : Nibble) : Byte := ~~~n ++ n

/-- The declared size of a size byte, its low nibble (R73). -/
def sizeLow (b : Byte) : Nibble := b.extractLsb' 0 4

/-- A size byte is valid iff its high nibble is the complement of its low nibble (R73). -/
def sizeValid (b : Byte) : Bool := b.extractLsb' 4 4 == ~~~(sizeLow b)

/-- The address byte of a slave address (R72). -/
def encAddr (a : Addr) : Byte := addrTag ++ a

/-- The address field of an address byte (R72). -/
def addrLow (b : Byte) : Addr := b.extractLsb' 0 6

/-- The tag of an address byte is `ADDR_TAG` (R72). -/
def addrTagged (b : Byte) : Bool := b.extractLsb' 6 2 == addrTag

/-- The 8-bit sum modulo 256 of a list of bytes (R74). -/
def sumBytes (l : List Byte) : Byte := l.foldl (· + ·) 0#8

/-- The size byte of a list of at most 15 bytes. -/
def declaredSize (d : List Byte) : Nibble := BitVec.ofNat 4 d.length

/-- A command packet of R71 with the checksum of R74 (the shorthand RXPKT of R88). -/
def packet (a : Addr) (cmd : Byte) (d : List Byte) : List Byte :=
  let body := hdrCmd :: encAddr a :: cmd :: encSize (declaredSize d) :: d
  body ++ [sumBytes body]

/-! ### Parser states (R81) and request codes (R83) -/

def psWFH : BitVec 3 := 0#3
def psWFA : BitVec 3 := 1#3
def psWFC : BitVec 3 := 2#3
def psWFS : BitVec 3 := 3#3
def psWFD : BitVec 3 := 4#3
def psWFK : BitVec 3 := 5#3

def opPoll : BitVec 4 := 0x1#4
def opPopU8 : BitVec 4 := 0x2#4
def opPopS8 : BitVec 4 := 0x3#4
def opPopU16 : BitVec 4 := 0x4#4
def opPopS16 : BitVec 4 := 0x5#4
def opPopU32 : BitVec 4 := 0x6#4
def opPopS32 : BitVec 4 := 0x7#4
def opAck : BitVec 4 := 0x8#4
def opPushU8 : BitVec 4 := 0xA#4
def opPushS8 : BitVec 4 := 0xB#4
def opPushU16 : BitVec 4 := 0xC#4
def opPushS16 : BitVec 4 := 0xD#4
def opPushU32 : BitVec 4 := 0xE#4
def opPushS32 : BitVec 4 := 0xF#4

/-! ### Decoding -/

/-- What the engine decodes: the request port (R82) or the receive word `ps ++ b` (R80). -/
inductive CodeWord where
  | request (op : BitVec 4) (data : Word32)
  | receive (rw : BitVec 11)
deriving DecidableEq, Repr

/-- The registers that the conditions of the receive rows read (R80, R100). `myAddr` is absent when the
configuration is illegal (R7). -/
structure RxCtx where
  csum : Byte
  dcount : Nibble
  sizeReg : Nibble
  candAddr : Addr
  myAddr : Option Addr
deriving DecidableEq, Repr

/-- Why a word has no meaning: the refusals of R203, and one more for a combination that no row of R100
covers (log entry 14). -/
inductive RefuseReason where
  /-- R85: `req_op` is 0x0 or 0x9. -/
  | reservedRequest
  /-- R119: `ps` is 6 or 7. -/
  | badParserState
  /-- R7, R37: an illegal configuration, or one changed out of reset. -/
  | badConfig
  /-- WFD with `dcount + 1 > size_reg`: no row of R100 (unreachable by R42, log entry 14). -/
  | noReceiveRow
deriving DecidableEq, Repr

/-- `MY_ADDR = BASE_ADDR + BOARD_SEL` (R7), absent when the sum is larger than 63. -/
def Config.myAddr (c : Config) : Option Addr :=
  if c.addressLegal then some (BitVec.ofNat 6 (c.baseAddr.toNat + c.boardSel.toNat)) else none

/-- The request codes of R83; 0x0 and 0x9 are reserved (R85). -/
def decodeRequest (op : BitVec 4) (x : Word32) : Except RefuseReason Instr :=
  if op = opPoll then .ok .poll
  else if op = opPopU8 then .ok .popU8
  else if op = opPopS8 then .ok .popS8
  else if op = opPopU16 then .ok .popU16
  else if op = opPopS16 then .ok .popS16
  else if op = opPopU32 then .ok .popU32
  else if op = opPopS32 then .ok .popS32
  else if op = opAck then .ok .ack
  else if op = opPushU8 then .ok (.pushU8 x)
  else if op = opPushS8 then .ok (.pushS8 x)
  else if op = opPushU16 then .ok (.pushU16 x)
  else if op = opPushS16 then .ok (.pushS16 x)
  else if op = opPushU32 then .ok (.pushU32 x)
  else if op = opPushS32 then .ok (.pushS32 x)
  else .error .reservedRequest

/-- The transition table of R100: the row of the receive word of `ps` and `b`, its conditions read from
the registers `c`. -/
def decodeReceive (c : RxCtx) (ps : BitVec 3) (b : Byte) : Except RefuseReason Instr :=
  if ps = psWFH then
    if b = hdrCmd then .ok .rxHdr else .ok (.rxSkip b)
  else if ps = psWFA then
    if addrTagged b then .ok (.rxAddr (addrLow b)) else .ok (.rxAddrBad b)
  else if ps = psWFC then .ok (.rxCmd b)
  else if ps = psWFS then
    if sizeValid b then
      if sizeLow b = 0#4 then .ok .rxSize0 else .ok (.rxSizeN (sizeLow b))
    else .ok (.rxSizeBad b)
  else if ps = psWFD then
    if c.dcount.toNat + 1 < c.sizeReg.toNat then .ok (.rxData b)
    else if c.dcount.toNat + 1 = c.sizeReg.toNat then .ok (.rxDataLast b)
    else .error .noReceiveRow
  else if ps = psWFK then
    if b = c.csum then
      match c.myAddr with
      | none => .error .badConfig
      | some a => if c.candAddr = a then .ok (.rxCsumOk b) else .ok (.rxAddrMiss b)
    else .ok (.rxCsumBad b)
  else .error .badParserState

/-- The decoder, total on every word, rejecting by name. -/
def decode (c : RxCtx) : CodeWord → Except RefuseReason Instr
  | .request op x => decodeRequest op x
  | .receive rw => decodeReceive c (rw.extractLsb' 8 3) (rw.extractLsb' 0 8)

/-! ### Encoding -/

/-- The receive word of a parser state and a byte (R80). -/
def rxWord (ps : BitVec 3) (b : Byte) : BitVec 11 := ps ++ b

/-- The word of an instruction, from the encodings of R83 and R101-R113. -/
def encode : Instr → CodeWord
  | .poll => .request 0x1#4 0
  | .popU8 => .request 0x2#4 0
  | .popS8 => .request 0x3#4 0
  | .popU16 => .request 0x4#4 0
  | .popS16 => .request 0x5#4 0
  | .popU32 => .request 0x6#4 0
  | .popS32 => .request 0x7#4 0
  | .ack => .request 0x8#4 0
  | .pushU8 x => .request 0xA#4 x
  | .pushS8 x => .request 0xB#4 x
  | .pushU16 x => .request 0xC#4 x
  | .pushS16 x => .request 0xD#4 x
  | .pushU32 x => .request 0xE#4 x
  | .pushS32 x => .request 0xF#4 x
  | .rxHdr => .receive (rxWord psWFH hdrCmd)
  | .rxSkip b => .receive (rxWord psWFH b)
  | .rxAddr a => .receive (rxWord psWFA (encAddr a))
  | .rxAddrBad b => .receive (rxWord psWFA b)
  | .rxCmd b => .receive (rxWord psWFC b)
  | .rxSize0 => .receive 0x3F0#11
  | .rxSizeN n => .receive (rxWord psWFS (encSize n))
  | .rxSizeBad b => .receive (rxWord psWFS b)
  | .rxData b => .receive (rxWord psWFD b)
  | .rxDataLast b => .receive (rxWord psWFD b)
  | .rxCsumOk b => .receive (rxWord psWFK b)
  | .rxCsumBad b => .receive (rxWord psWFK b)
  | .rxAddrMiss b => .receive (rxWord psWFK b)

/-- The `condition` fields of spec/opcode_table.json that name a register: what the registers `c` must hold
for the row to be chosen (R109-R113). -/
def Instr.selectedBy (c : RxCtx) : Instr → Bool
  | .rxData _ => c.dcount.toNat + 1 < c.sizeReg.toNat
  | .rxDataLast _ => c.dcount.toNat + 1 == c.sizeReg.toNat
  | .rxCsumOk b => b == c.csum && c.myAddr == some c.candAddr
  | .rxCsumBad b => b != c.csum
  | .rxAddrMiss b => b == c.csum && c.myAddr.isSome && c.myAddr != some c.candAddr
  | _ => true

/-! ### The words of spec/opcode_table.json -/

/-- The registers with which a bare table word is decoded: in WFD the first of two data bytes, in WFK a
packet for this device whose checksum is 0 (log entry 15; the table's words hold no register). -/
def tableCtx : RxCtx :=
  { csum := 0#8, dcount := 0#4, sizeReg := 2#4, candAddr := 0#6, myAddr := some 0#6 }

/-- The decoder on a table word: one byte is a request code (`req_op` in bits 3:0, `req_data` zero), two
bytes are a receive word (bits 10:0). The ports have no higher bits (log entry 22). -/
def tableWord (nbits w : Nat) : CodeWord :=
  if nbits ≤ 8 then .request (BitVec.ofNat 4 w) 0 else .receive (BitVec.ofNat 11 w)

/-- The instruction the decoder reads from a table word (host interface). -/
def decodeTableWord (nbits w : Nat) : Option Instr :=
  match decode tableCtx (tableWord nbits w) with
  | .ok i => some i
  | .error _ => none

end Sys2Proof
end

