-- ==== Sys2Proof/Machine/State.lean ====
section
/-! DEFINITION. The state of the machine as plain data (R20-R40, R82), the reasons a step stops, and the state
right after reset (R230). -/

namespace Sys2Proof.Machine

/-! ### Memory -/

/-- A buffer of R50 as the list of the bytes written to it. An index that is not listed holds no value
(R20, log entry 3). -/
abbrev Memory := List Host.Cell

/-- The canonical form: indices strictly rising, every index below `BUF_CAP` (R8, R50). -/
def Memory.wf : Memory → Bool
  | [] => true
  | [(a, _)] => a < bufCap
  | (a, _) :: (a', b') :: m => a < a' && Memory.wf ((a', b') :: m)

/-! ### Reasons and events -/

/-- The reasons of a discard (R201). -/
inductive Discard where
  | addrTag | sizeNibble | checksum | address
deriving DecidableEq, Repr

/-- The reasons of a contract violation (R202). -/
inductive Violation where
  | popOutsideWindow | popPastSize | pushOutsideWindow | pushOverflow | ackOutsideWindow
deriving DecidableEq, Repr

/-- The responses of R84. -/
inductive Response where
  | notReady
  | ready (cmd : Byte) (size : Nibble)
  | value (v : Word32)
  | done
deriving DecidableEq, Repr

/-- The events of the observation (R11). A `Resp` names the request by its code (R83). -/
inductive Event where
  | resp (op : BitVec 4) (x : Response)
  | accept (cmd : Byte) (size : Nibble)
  | discard (r : Discard)
  | txEnRise
  | txByte (b : Byte)
  | txEnFall
  | fault (r : Violation)
deriving DecidableEq, Repr

/-- Why a step stops with a fault. -/
inductive Fault where
  /-- Raised by `step` on a state whose `cv_fault` is set: the contract violation ended the run (R202, R207)
  and only reset leaves that state (R36). Safe: nothing can be proved of the run after it. -/
  | contractViolation (r : Violation)
  /-- Raised by a pop or by the reply encoder that reads a buffer byte nothing has written (R41 allows this
  fault). Safe: the machine stops where the hardware would return garbage. -/
  | unwrittenByte
deriving DecidableEq, Repr

/-- Why a step has no meaning. -/
inductive Refusal where
  /-- Raised by `exec` for an instruction without a meaning yet. Safe. -/
  | notModelled (mnemonic : String)
  /-- Raised by `step` on a state whose `refused` mark is set (R203): the run is over until reset. Safe. -/
  | recorded (r : RefuseReason)
  /-- Raised by `exec` for a host request while `mode` is not IDLE; the host makes no such request (R116,
  R161, R180). Safe. -/
  | engineBusy
  /-- Raised by `exec` for a receive row outside a POLL, in another parser state, or with its condition
  false: R100 does not choose that row there. Safe. -/
  | rowNotSelected
deriving DecidableEq, Repr

/-! ### Ports and agents -/

/-- A host request as it stands on the request port (R82). -/
structure Request where
  op : BitVec 4
  data : Word32
deriving DecidableEq, Repr

/-- The request sequencer (R33). -/
inductive Mode where
  | idle | polling | ackPre | ackSend | ackFlush | ackPost
deriving DecidableEq, Repr

/-- The levels of the four digital inputs a read command samples (R183, R185). -/
structure Sensors where
  a : Bool
  b : Bool
  c : Bool
  d : Bool
deriving DecidableEq, Repr

/-- One move of one agent (R5), an entry of the schedule (log entry 6). -/
inductive Turn where
  /-- The engine moves. -/
  | engine
  /-- The host presents a request. -/
  | host (r : Request)
  /-- The host moves as the board's dispatcher (R182), the inputs at these levels. -/
  | dispatch (v : Sensors)
  /-- The RX transport delivers a byte (R38). -/
  | rx (b : Byte)
  /-- The TX transport finishes one byte (R39). -/
  | txSend
  /-- The TX transport finishes every byte handed to it (R39; FLUSHED of R87). -/
  | flushed
  /-- The reset input takes a level (R230). -/
  | rst (level : Bool)
  /-- The configuration inputs take these values (R37). -/
  | config (c : ConfigInputs)
deriving DecidableEq, Repr

/-! ### State -/

/-- The state: the record of R20 under the spec's names, the configuration (R37), the ports that hold a
value between steps (R82), the transports (R38, R39), the host, and the model's own three fields at the
end. -/
structure State where
  /-- Parser state (R21), encoded as R81. -/
  ps : BitVec 3
  /-- `csum` (R22). -/
  csum : Byte
  /-- `cand_addr` (R23). -/
  candAddr : Addr
  /-- `cmd_reg` (R24). -/
  cmdReg : Byte
  /-- `size_reg` (R25). -/
  sizeReg : Nibble
  /-- `dcount` (R26). -/
  dcount : Nibble
  /-- `rxbuf` (R27). -/
  rxbuf : Memory
  /-- `rd_cur` (R28). -/
  rdCur : Nibble
  /-- `txbuf` (R29). -/
  txbuf : Memory
  /-- `tx_cur` (R30). -/
  txCur : Nibble
  /-- `acc_cmd` (R31). -/
  accCmd : Byte
  /-- `acc_size` (R31). -/
  accSize : Nibble
  /-- `tx_csum` (R32). -/
  txCsum : Byte
  /-- `mode` (R33). -/
  mode : Mode
  /-- `tx_en` (R34). -/
  txEn : Bool
  /-- `rxwin` (R35). -/
  rxwin : Bool
  /-- `txwin` (R35). -/
  txwin : Bool
  /-- `cv_fault` (R36, R202): `none` is 0, `some r` is 1 with the reason recorded. -/
  cvFault : Option Violation
  /-- `refused` (R36, R203): `none` is 0, `some r` is 1 with the reason. -/
  refused : Option RefuseReason
  /-- The configuration (R7, R37). -/
  cfg : Config
  /-- `rst` (R82, R230). -/
  rst : Bool
  /-- `req_valid`, `req_op`, `req_data` (R82): the request the host holds until its response. -/
  req : Option Request
  /-- `resp_valid` and the response fields (R82, R84): the last response, until the host goes on. -/
  resp : Option Response
  /-- `RXQ` (R38), oldest byte first. -/
  rxq : List Byte
  /-- `TXQ` (R39), oldest byte first. -/
  txq : List Byte
  /-- `TxFlushed()` (R10, R39). -/
  txFlushed : Bool
  /-- The dispatcher's requests not yet presented (R182). -/
  hostq : List Request
  /-- The OPEN parameters of the host (R183, R186). -/
  hostParams : HostParams
  /-- The MODEL's own: the schedule, next turn first; when it is empty the engine moves (log entry 6). -/
  turns : List Turn
  /-- The MODEL's own: the observation of R11, oldest event first (log entry 16). -/
  trace : List Event
  /-- The MODEL's own: how many resets have drawn free values (log entry 2). -/
  resets : Nat
deriving DecidableEq, Repr

/-- The configuration of State.reset: the spec's example address 0x3C (R7; log entry 10). -/
def exampleConfig : Config :=
  { baseAddr := 0x3C#6, boardSel := 0#2, baud := 1, settleNs := 2000000000, noDataTrailer := false }

/-- Example values of the OPEN command codes (R183; log entry 19). -/
def exampleHostParams : HostParams :=
  { cmdPing := 0x01#8, cmdInit := 0x03#8, cmdReadB := 0x04#8, cmdReadC := 0x05#8, cmdReadD := 0x06#8,
    cmdOutOn := 0x07#8, cmdOutOff := 0x08#8, literalSizeBug := none }

/-- The machine right after reset (R230), nothing received, nothing requested. The registers to which R230
gives no value are zero (log entry 1); the buffers hold no value (log entry 3). -/
def State.reset : State where
  ps := psWFH
  csum := 0#8
  candAddr := 0#6
  cmdReg := 0#8
  sizeReg := 0#4
  dcount := 0#4
  rxbuf := []
  rdCur := 0#4
  txbuf := []
  txCur := 0#4
  accCmd := 0#8
  accSize := 0#4
  txCsum := 0#8
  mode := .idle
  txEn := false
  rxwin := false
  txwin := false
  cvFault := none
  refused := none
  cfg := exampleConfig
  rst := false
  req := none
  resp := none
  rxq := []
  txq := []
  txFlushed := true
  hostq := []
  hostParams := exampleHostParams
  turns := []
  trace := []
  resets := 0

end Sys2Proof.Machine
end

