-- ==== Sys2Proof/Machine/Ops.lean ====
section
/-! DEFINITION. The named operations over the buffers, the ports and the record of R20 that the meanings share:
buffer access, responses, discards, contract violations, refusals, handing bytes to the TX transport, reset. -/

namespace Sys2Proof.Machine

/-! ### Buffers (R50, R51) -/

/-- The byte at an index, if one was written there. -/
def Memory.read : Memory → Nat → Option Byte
  | [], _ => none
  | (a, b) :: m, i => if i = a then some b else Memory.read m i

/-- Write one byte, keeping the canonical form. -/
def Memory.write : Memory → Nat → Byte → Memory
  | [], i, x => [(i, x)]
  | (a, b) :: m, i, x =>
    if i < a then (i, x) :: (a, b) :: m
    else if i = a then (i, x) :: m
    else (a, b) :: Memory.write m i x

/-- The `n` bytes from an index on, in index order, if all were written. -/
def Memory.readBytes (m : Memory) (i : Nat) : Nat → Option (List Byte)
  | 0 => some []
  | n + 1 =>
    match m.read i, Memory.readBytes m (i + 1) n with
    | some b, some l => some (b :: l)
    | _, _ => none

/-- Write a list of bytes from an index on, first byte at the lowest index (R51). -/
def Memory.writeBytes : Memory → Nat → List Byte → Memory
  | m, _, [] => m
  | m, i, b :: l => Memory.writeBytes (m.write i b) (i + 1) l

/-! ### Events and responses -/

/-- `emit E` (R10): append an event to the observation. -/
def State.emit (s : State) (e : Event) : State := { s with trace := s.trace ++ [e] }

/-- `respond X` (R10): complete the current request of code `op`; the host lets its request go (R82). -/
def State.respond (s : State) (op : BitVec 4) (x : Response) : State :=
  { s with req := none, resp := some x, trace := s.trace ++ [.resp op x] }

/-! ### Discards, contract violations, refusals -/

/-- A discard (R201): back to WFH, and the event. -/
def State.discard (s : State) (r : Discard) : State :=
  { s with ps := psWFH, trace := s.trace ++ [.discard r] }

/-- TAKING A CONTRACT VIOLATION (R202): `cv_fault <- 1` with its reason, the event `Fault(reason)`, nothing
else written, no response. -/
def State.violate (s : State) (r : Violation) : State :=
  { s with cvFault := some r, trace := s.trace ++ [.fault r] }

/-- Recording a refusal (R203): `refused <- 1`, nothing else. -/
def State.refuse (s : State) (r : RefuseReason) : State := { s with refused := some r }

/-- The code of a discard reason (R201). -/
def Discard.code : Discard → Nat
  | .addrTag => 1
  | .sizeNibble => 2
  | .checksum => 3
  | .address => 4

/-- The code of a violation reason (R202). -/
def Violation.code : Violation → Nat
  | .popOutsideWindow => 1
  | .popPastSize => 2
  | .pushOutsideWindow => 3
  | .pushOverflow => 4
  | .ackOutsideWindow => 5

/-! ### The TX transport's write (R39, R165) -/

/-- `TxWrite(b); emit TxByte(b)`: the byte joins TXQ, so not everything is transmitted any more. -/
def State.txWrite (s : State) (b : Byte) : State :=
  { s with txq := s.txq ++ [b], txFlushed := false, trace := s.trace ++ [.txByte b] }

/-- Hand a frame to the TX transport, byte by byte in order (R165). -/
def State.txWriteAll (s : State) : List Byte → State
  | [] => s
  | b :: l => (s.txWrite b).txWriteAll l

/-! ### Guards of the meanings (log entry 13) -/

/-- A host request runs in IDLE (R116, R161, R180). -/
def whenIdle (s : State) (o : Host.Outcome State Fault Refusal) : Host.Outcome State Fault Refusal :=
  if s.mode = .idle then o else .refused .engineBusy

/-- A receive row runs in a POLL, in its parser state and under its condition (R100, R116). -/
def onRow (s : State) (ps : BitVec 3) (cond : Bool) (t : State) : Host.Outcome State Fault Refusal :=
  if s.mode = .polling ∧ s.ps = ps ∧ cond = true then .next t else .refused .rowNotSelected

/-! ### Reset (R230, R231) -/

/-- Assertion of `rst`: the reset column of R20, the registers without a value there free (log entry 2),
the request in progress ended without a response and `tx_en` dropped (R231). The transports, the
configuration and the model's schedule stay (R230). -/
def State.applyReset (s : State) : State :=
  { s with
    ps := psWFH, mode := .idle, rdCur := 0#4, txCur := 0#4, txEn := false, rxwin := false, txwin := false,
    cvFault := none, refused := none,
    csum := Config.freeCsum s.resets, candAddr := Config.freeCandAddr s.resets,
    cmdReg := Config.freeCmdReg s.resets, sizeReg := Config.freeSizeReg s.resets,
    dcount := Config.freeDcount s.resets, accCmd := Config.freeAccCmd s.resets,
    accSize := Config.freeAccSize s.resets, txCsum := Config.freeTxCsum s.resets,
    rxbuf := [], txbuf := [],
    rst := true, req := none, resp := none, hostq := [],
    trace := if s.txEn then s.trace ++ [.txEnFall] else s.trace,
    resets := s.resets + 1 }

end Sys2Proof.Machine
end

