-- ==== Sys2Proof/Machine/Flags.lean ====
section
/-! DEFINITION. The engine has no condition codes (R40). Its tests are the contract checks over the window
bits (R137, R147, R161) and the registers the receive rows' conditions read (R80). -/

namespace Sys2Proof.Machine

/-- The registers the receive rows read (R100). -/
def State.rxCtx (s : State) : RxCtx :=
  { csum := s.csum, dcount := s.dcount, sizeReg := s.sizeReg, candAddr := s.candAddr, myAddr := s.cfg.myAddr }

/-- The pop contract check (R137), the window before the size (R204). -/
def popCheck (s : State) (w : Nat) : Option Violation :=
  if s.rxwin = false then some .popOutsideWindow
  else if s.accSize.toNat < s.rdCur.toNat + w then some .popPastSize
  else none

/-- The push contract check (R147): at most `MAX_PAYLOAD` bytes (R8), the window first (R204). -/
def pushCheck (s : State) (w : Nat) : Option Violation :=
  if s.txwin = false then some .pushOutsideWindow
  else if maxPayload < s.txCur.toNat + w then some .pushOverflow
  else none

/-- The ACK contract check (R161). -/
def ackCheck (s : State) : Option Violation :=
  if s.txwin = false then some .ackOutsideWindow else none

end Sys2Proof.Machine
end

