-- ==== Sys2Proof/Machine/Operands.lean ====
section
/-! DEFINITION. The operand forms of pops and pushes: three widths, big-endian (R51, R54), zero or sign
extension (R130), truncation (R140). -/

namespace Sys2Proof.Machine

/-- The access widths (R9, R83). -/
inductive Width where
  | w1 | w2 | w4
deriving DecidableEq, Repr

/-- The width in bytes. -/
def Width.bytes : Width → Nat
  | .w1 => 1
  | .w2 => 2
  | .w4 => 4

/-- `sext_32` or `zext_32` (R10, R130). -/
def extend32 {n : Nat} (signed : Bool) (v : BitVec n) : Word32 :=
  if signed then v.signExtend 32 else v.setWidth 32

/-- The big-endian value of `w` bytes extended to 32 bits (R130); absent for another number of bytes. -/
def beValue (w : Width) (signed : Bool) (l : List Byte) : Option Word32 :=
  match w, l with
  | .w1, [b0] => some (extend32 signed b0)
  | .w2, [b0, b1] => some (extend32 signed (b0 ++ b1))
  | .w4, [b0, b1, b2, b3] => some (extend32 signed (b0 ++ b1 ++ b2 ++ b3))
  | _, _ => none

/-- The low `8w` bits of a push argument, most significant byte first (R140). -/
def beBytes (w : Width) (x : Word32) : List Byte :=
  match w with
  | .w1 => [x.extractLsb' 0 8]
  | .w2 => [x.extractLsb' 8 8, x.extractLsb' 0 8]
  | .w4 => [x.extractLsb' 24 8, x.extractLsb' 16 8, x.extractLsb' 8 8, x.extractLsb' 0 8]

/-- The value a pop reads at the read cursor (R130), if the bytes there were written. -/
def State.popValue (s : State) (w : Width) (signed : Bool) : Option Word32 :=
  match s.rxbuf.readBytes s.rdCur.toNat w.bytes with
  | none => none
  | some l => beValue w signed l

/-- The pop of R130. -/
def pop (op : BitVec 4) (w : Width) (signed : Bool) (s : State) : Host.Outcome State Fault Refusal :=
  whenIdle s <|
    match popCheck s w.bytes with
    | some r => .next (s.violate r)
    | none =>
      match s.popValue w signed with
      | none => .fault .unwrittenByte
      | some v => .next ({ s with rdCur := s.rdCur + BitVec.ofNat 4 w.bytes }.respond op (.value v))

/-- The push of R140. -/
def push (op : BitVec 4) (w : Width) (x : Word32) (s : State) : Host.Outcome State Fault Refusal :=
  whenIdle s <|
    match pushCheck s w.bytes with
    | some r => .next (s.violate r)
    | none =>
      .next ({ s with
        txbuf := s.txbuf.writeBytes s.txCur.toNat (beBytes w x)
        txCur := s.txCur + BitVec.ofNat 4 w.bytes }.respond op .done)

end Sys2Proof.Machine
end

