-- ==== Sys2Proof/Machine/Framer.lean ====
section
/-! DEFINITION. The receive family: POLL (R116) and the thirteen receive rows (R101-R113). -/

namespace Sys2Proof.Machine

/-- POLL accepted (R116): both windows close and the byte loop begins; each later iteration is an engine step
of its own (`Machine/Engine.lean`). -/
def execPoll (s : State) : Host.Outcome State Fault Refusal :=
  whenIdle s (.next { s with rxwin := false, txwin := false, mode := .polling })

/-- RX_HDR (R101). -/
def execRxHdr (s : State) : Host.Outcome State Fault Refusal :=
  onRow s psWFH true { s with csum := hdrCmd, ps := psWFA }

/-- RX_SKIP (R102). -/
def execRxSkip (b : Byte) (s : State) : Host.Outcome State Fault Refusal :=
  onRow s psWFH (b != hdrCmd) { s with csum := b }

/-- RX_ADDR (R103). -/
def execRxAddr (a : Addr) (s : State) : Host.Outcome State Fault Refusal :=
  onRow s psWFA true { s with csum := s.csum + encAddr a, candAddr := a, ps := psWFC }

/-- RX_ADDR_BAD (R104). -/
def execRxAddrBad (b : Byte) (s : State) : Host.Outcome State Fault Refusal :=
  onRow s psWFA (!addrTagged b)
    ({ s with csum := s.csum + b, candAddr := addrLow b }.discard .addrTag)

/-- RX_CMD (R105). -/
def execRxCmd (b : Byte) (s : State) : Host.Outcome State Fault Refusal :=
  onRow s psWFC true { s with csum := s.csum + b, cmdReg := b, ps := psWFS }

/-- RX_SIZE0 (R106). `dcount` is not written. -/
def execRxSize0 (s : State) : Host.Outcome State Fault Refusal :=
  onRow s psWFS true { s with csum := s.csum + encSize 0#4, sizeReg := 0#4, ps := psWFK }

/-- RX_SIZEN (R107). -/
def execRxSizeN (n : Nibble) (s : State) : Host.Outcome State Fault Refusal :=
  onRow s psWFS (n != 0#4)
    { s with csum := s.csum + encSize n, sizeReg := n, dcount := 0#4, ps := psWFD }

/-- RX_SIZE_BAD (R108). -/
def execRxSizeBad (b : Byte) (s : State) : Host.Outcome State Fault Refusal :=
  onRow s psWFS (!sizeValid b)
    ({ s with csum := s.csum + b, sizeReg := sizeLow b }.discard .sizeNibble)

/-- What both data rows write: the sum, the byte at index `dcount`, the count (R109, R110). -/
def State.storeData (s : State) (b : Byte) : State :=
  { s with csum := s.csum + b, rxbuf := s.rxbuf.write s.dcount.toNat b, dcount := s.dcount + 1#4 }

/-- RX_DATA (R109). -/
def execRxData (b : Byte) (s : State) : Host.Outcome State Fault Refusal :=
  onRow s psWFD (s.dcount.toNat + 1 < s.sizeReg.toNat) (s.storeData b)

/-- RX_DATA_LAST (R110). -/
def execRxDataLast (b : Byte) (s : State) : Host.Outcome State Fault Refusal :=
  onRow s psWFD (s.dcount.toNat + 1 == s.sizeReg.toNat) { s.storeData b with ps := psWFK }

/-- What an acceptance writes (R111), before the POLL's response. -/
def State.accept (s : State) : State :=
  { s with
    accCmd := s.cmdReg, accSize := s.sizeReg, rdCur := 0#4, txCur := 0#4, rxwin := true, txwin := true,
    ps := psWFH, mode := .idle, trace := s.trace ++ [.accept s.cmdReg s.sizeReg] }

/-- RX_CSUM_OK (R111): the packet is accepted and the POLL completes with `Ready` (R118). -/
def execRxCsumOk (b : Byte) (s : State) : Host.Outcome State Fault Refusal :=
  onRow s psWFK (b == s.csum && s.cfg.myAddr == some s.candAddr)
    (s.accept.respond opPoll (.ready s.cmdReg s.sizeReg))

/-- RX_CSUM_BAD (R112), whatever the address (R204). -/
def execRxCsumBad (b : Byte) (s : State) : Host.Outcome State Fault Refusal :=
  onRow s psWFK (b != s.csum) (s.discard .checksum)

/-- RX_ADDR_MISS (R113). -/
def execRxAddrMiss (b : Byte) (s : State) : Host.Outcome State Fault Refusal :=
  onRow s psWFK (b == s.csum && s.cfg.myAddr.isSome && s.cfg.myAddr != some s.candAddr)
    (s.discard .address)

end Sys2Proof.Machine
end

