-- ==== Sys2Proof/Machine/Pop.lean ====
section
/-! DEFINITION. The six pops from the receive buffer (R131-R136), over the one operation of R130. -/

namespace Sys2Proof.Machine

/-- POP.U8 (R131). -/
def execPopU8 (s : State) : Host.Outcome State Fault Refusal := pop opPopU8 .w1 false s

/-- POP.S8 (R132). -/
def execPopS8 (s : State) : Host.Outcome State Fault Refusal := pop opPopS8 .w1 true s

/-- POP.U16 (R133). -/
def execPopU16 (s : State) : Host.Outcome State Fault Refusal := pop opPopU16 .w2 false s

/-- POP.S16 (R134). -/
def execPopS16 (s : State) : Host.Outcome State Fault Refusal := pop opPopS16 .w2 true s

/-- POP.U32 (R135). -/
def execPopU32 (s : State) : Host.Outcome State Fault Refusal := pop opPopU32 .w4 false s

/-- POP.S32 (R136). -/
def execPopS32 (s : State) : Host.Outcome State Fault Refusal := pop opPopS32 .w4 true s

end Sys2Proof.Machine
end

