-- ==== Sys2Proof/Machine/Push.lean ====
section
/-! DEFINITION. The six pushes into the transmit buffer (R141-R146), over the one operation of R140; the
signedness changes no byte (R140). -/

namespace Sys2Proof.Machine

/-- PUSH.U8 (R141). -/
def execPushU8 (x : Word32) (s : State) : Host.Outcome State Fault Refusal := push opPushU8 .w1 x s

/-- PUSH.S8 (R142). -/
def execPushS8 (x : Word32) (s : State) : Host.Outcome State Fault Refusal := push opPushS8 .w1 x s

/-- PUSH.U16 (R143). -/
def execPushU16 (x : Word32) (s : State) : Host.Outcome State Fault Refusal := push opPushU16 .w2 x s

/-- PUSH.S16 (R144). -/
def execPushS16 (x : Word32) (s : State) : Host.Outcome State Fault Refusal := push opPushS16 .w2 x s

/-- PUSH.U32 (R145). -/
def execPushU32 (x : Word32) (s : State) : Host.Outcome State Fault Refusal := push opPushU32 .w4 x s

/-- PUSH.S32 (R146). -/
def execPushS32 (x : Word32) (s : State) : Host.Outcome State Fault Refusal := push opPushS32 .w4 x s

end Sys2Proof.Machine
end

