-- ==== Sys2Proof/Machine/Reply.lean ====
section
/-! DEFINITION. ACK (R160, R161) and the phases that follow it (R162-R168), the reply frame (R163, R164). -/

namespace Sys2Proof.Machine

/-- ACK accepted (R161): the push window closes, `tx_en` rises, the phases begin. -/
def execAck (s : State) : Host.Outcome State Fault Refusal :=
  whenIdle s <|
    match ackCheck s with
    | some r => .next (s.violate r)
    | none => .next ({ s with txwin := false, txEn := true, mode := .ackPre }.emit .txEnRise)

/-- The checksum of a data reply (R164): header, size byte and every payload byte. -/
def replyCsum (d : List Byte) : Byte := sumBytes (ackData :: encSize (declaredSize d) :: d)

/-- The frame of a reply with payload (R77, R164). -/
def dataFrame (d : List Byte) : List Byte :=
  ackData :: encSize (declaredSize d) :: (d ++ [replyCsum d])

/-- The frame of a reply without payload (R76, R163). -/
def noDataFrame (trailer : Bool) : List Byte := if trailer then [ackNoData, ackNoData] else [ackNoData]

/-- `tx_csum` and the frame, from `tx_cur` and `txbuf` (R163, R164, R173), if the pushed bytes were written. -/
def State.replyFrame (s : State) : Option (Byte × List Byte) :=
  if s.txCur = 0#4 then some (ackNoData, noDataFrame s.cfg.noDataTrailer)
  else
    match s.txbuf.readBytes 0 s.txCur.toNat with
    | none => none
    | some d => some (replyCsum d, dataFrame d)

/-- ACK_PRE (R162): the settle is an unconditional step. -/
def ackPreStep (s : State) : Host.Outcome State Fault Refusal := .next { s with mode := .ackSend }

/-- ACK_SEND (R165). -/
def ackSendStep (s : State) : Host.Outcome State Fault Refusal :=
  match s.replyFrame with
  | none => .fault .unwrittenByte
  | some (ck, frame) => .next ({ s with txCsum := ck, mode := .ackFlush }.txWriteAll frame)

/-- ACK_FLUSH (R166): a hold until TxFlushed() (log entry 7). -/
def ackFlushStep (s : State) : Host.Outcome State Fault Refusal :=
  if s.txFlushed then .next { s with mode := .ackPost } else .next s

/-- ACK_POST and the end (R167, R168): release the bus and respond (log entry 9). -/
def ackPostStep (s : State) : Host.Outcome State Fault Refusal :=
  .next (({ s with txEn := false, mode := .idle }.emit .txEnFall).respond opAck .done)

end Sys2Proof.Machine
end

