-- ==== Sys2Proof/Machine/Dispatch.lean ====
section
/-! DEFINITION. One arm per instruction. -/

namespace Sys2Proof.Machine

def exec (i : Instr) (s : State) : Host.Outcome State Fault Refusal :=
  match i with
  | .poll => Sys2Proof.Machine.execPoll s
  | .popU8 => Sys2Proof.Machine.execPopU8 s
  | .popS8 => Sys2Proof.Machine.execPopS8 s
  | .popU16 => Sys2Proof.Machine.execPopU16 s
  | .popS16 => Sys2Proof.Machine.execPopS16 s
  | .popU32 => Sys2Proof.Machine.execPopU32 s
  | .popS32 => Sys2Proof.Machine.execPopS32 s
  | .ack => Sys2Proof.Machine.execAck s
  | .pushU8 x => Sys2Proof.Machine.execPushU8 x s
  | .pushS8 x => Sys2Proof.Machine.execPushS8 x s
  | .pushU16 x => Sys2Proof.Machine.execPushU16 x s
  | .pushS16 x => Sys2Proof.Machine.execPushS16 x s
  | .pushU32 x => Sys2Proof.Machine.execPushU32 x s
  | .pushS32 x => Sys2Proof.Machine.execPushS32 x s
  | .rxHdr => Sys2Proof.Machine.execRxHdr s
  | .rxSkip b => Sys2Proof.Machine.execRxSkip b s
  | .rxAddr a => Sys2Proof.Machine.execRxAddr a s
  | .rxAddrBad b => Sys2Proof.Machine.execRxAddrBad b s
  | .rxCmd b => Sys2Proof.Machine.execRxCmd b s
  | .rxSize0 => Sys2Proof.Machine.execRxSize0 s
  | .rxSizeN n => Sys2Proof.Machine.execRxSizeN n s
  | .rxSizeBad b => Sys2Proof.Machine.execRxSizeBad b s
  | .rxData b => Sys2Proof.Machine.execRxData b s
  | .rxDataLast b => Sys2Proof.Machine.execRxDataLast b s
  | .rxCsumOk b => Sys2Proof.Machine.execRxCsumOk b s
  | .rxCsumBad b => Sys2Proof.Machine.execRxCsumBad b s
  | .rxAddrMiss b => Sys2Proof.Machine.execRxAddrMiss b s

end Sys2Proof.Machine
end

