-- ==== Sys2Proof/Machine/Engine.lean ====
section
/-! DEFINITION. One step of the engine (R6): accepting the request on the port, one iteration of a POLL, or one
phase of an ACK. -/

namespace Sys2Proof.Machine

/-- IDLE: decode and run the request on the port (R83); a hold while there is none (R12, R230); a reserved
code is refused (R85). -/
def idleStep (s : State) : Host.Outcome State Fault Refusal :=
  match s.req with
  | none => .next s
  | some r =>
    match decode s.rxCtx (.request r.op r.data) with
    | .ok i => exec i s
    | .error e => .next (s.refuse e)

/-- POLLING: one iteration of the loop of R116. With RXQ empty the POLL ends with `NotReady`; else the
oldest byte is taken and its row runs (R100), or the receive word has no row and is refused (R119; the
byte then stays, log entry 21). -/
def pollStep (s : State) : Host.Outcome State Fault Refusal :=
  match s.rxq with
  | [] => .next ({ s with mode := .idle }.respond opPoll .notReady)
  | b :: q =>
    match decode s.rxCtx (.receive (rxWord s.ps b)) with
    | .ok i => exec i { s with rxq := q }
    | .error e => .next (s.refuse e)

/-- The engine's step; none while reset is asserted (R230). -/
def engineStep (s : State) : Host.Outcome State Fault Refusal :=
  if s.rst then .next s
  else
    match s.mode with
    | .idle => idleStep s
    | .polling => pollStep s
    | .ackPre => ackPreStep s
    | .ackSend => ackSendStep s
    | .ackFlush => ackFlushStep s
    | .ackPost => ackPostStep s

end Sys2Proof.Machine
end

