-- ==== Sys2Proof/Machine/Dispatcher.lean ====
section
/-! DEFINITION. The board's command dispatcher as a host (R182-R186): which requests it makes after a `Ready`.
The pins and the board action of initialize/reset are outside the block (R4, log entry 19). -/

namespace Sys2Proof.Machine

/-- The commands of R183. -/
inductive Command where
  | ping | init | read (x : Sensor) | outOn | outOff
deriving DecidableEq, Repr

/-- The command of a code (R183): only read-sensor-A has a code in the source, the others are parameters. -/
def commandOf (p : HostParams) (cmd : Byte) : Option Command :=
  if cmd = 0x02#8 then some (.read .a)
  else if cmd = p.cmdPing then some .ping
  else if cmd = p.cmdInit then some .init
  else if cmd = p.cmdReadB then some (.read .b)
  else if cmd = p.cmdReadC then some (.read .c)
  else if cmd = p.cmdReadD then some (.read .d)
  else if cmd = p.cmdOutOn then some .outOn
  else if cmd = p.cmdOutOff then some .outOff
  else none

/-- `SIZE_IN` of every command of R183 is 0. -/
def Command.sizeIn : Command → Nibble
  | .ping | .init | .read _ | .outOn | .outOff => 0#4

/-- The size check (R186); with `LITERAL_SIZE_BUG` the one read command named there accepts every size. -/
def sizeAccepted (p : HostParams) (k : Command) (size : Nibble) : Bool :=
  match k with
  | .read x => size == k.sizeIn || p.literalSizeBug == some x
  | .ping | .init | .outOn | .outOff => size == k.sizeIn

/-- The level of an input (R185). -/
def Sensors.level (v : Sensors) : Sensor → Bool
  | .a => v.a
  | .b => v.b
  | .c => v.c
  | .d => v.d

/-- The requests of a served command (R182, R185): a read pushes 0 or 1 with PUSH.U8, then every command is
acknowledged. -/
def Command.requests (v : Sensors) : Command → List Request
  | .read x => [⟨opPushU8, if v.level x then 1 else 0⟩, ⟨opAck, 0⟩]
  | .ping | .init | .outOn | .outOff => [⟨opAck, 0⟩]

/-- What the dispatcher does after `Ready(cmd, size)` (R182): nothing for a command it does not serve or a
size that does not match, else the command's requests. -/
def dispatcherRequests (p : HostParams) (v : Sensors) (cmd : Byte) (size : Nibble) : List Request :=
  match commandOf p cmd with
  | none => []
  | some k => if sizeAccepted p k size then k.requests v else []

end Sys2Proof.Machine
end

