-- ==== Sys2Proof/Machine/Environment.lean ====
section
/-! DEFINITION. The moves of the agents around the engine: host, transports, reset and configuration inputs
(R5, R180, R181). -/

namespace Sys2Proof.Machine

/-- The host may present a request: none is outstanding, the engine is IDLE and out of reset (R180, R233). -/
def State.hostReady (s : State) : Bool := s.req.isNone && s.mode == .idle && !s.rst

/-- The host presents a request (R82); the last response has been seen. -/
def State.present (s : State) (r : Request) : State := { s with req := some r, resp := none }

/-- The host's move; no move while a request is outstanding (R180). -/
def hostTurn (r : Request) (s : State) : State := if s.hostReady then s.present r else s

/-- The dispatcher's move (R182): the next request of the command it serves; else it looks at a `Ready` and
decides; else it begins a cycle with POLL. -/
def dispatchTurn (v : Sensors) (s : State) : State :=
  if s.hostReady then
    match s.hostq with
    | r :: rest => { s with hostq := rest }.present r
    | [] =>
      match s.resp with
      | some (.ready cmd size) =>
        { s with hostq := dispatcherRequests s.hostParams v cmd size, resp := none }
      | _ => s.present ⟨opPoll, 0⟩
  else s

/-- The RX transport delivers a byte (R38). -/
def rxTurn (b : Byte) (s : State) : State := { s with rxq := s.rxq ++ [b] }

/-- The TX transport finishes the oldest byte of TXQ (R39). -/
def txSendTurn (s : State) : State := { s with txq := s.txq.tail }

/-- The TX transport has physically transmitted every byte handed to it (R10, R39). -/
def flushedTurn (s : State) : State := { s with txq := [], txFlushed := true }

/-- The reset input (R230, R231). At the release an illegal configuration is refused (R203, log entry 17). -/
def rstTurn (level : Bool) (s : State) : State :=
  match level, s.rst with
  | true, false => s.applyReset
  | false, true =>
    { s with rst := false, refused := if s.cfg.addressLegal then s.refused else some .badConfig }
  | _, _ => s

/-- The configuration inputs: they may change while reset is asserted; a change out of reset is refused
(R37, R203). `P_NODATA_TRAILER` is fixed at build time and no turn changes it (R37). -/
def configTurn (c : ConfigInputs) (s : State) : State :=
  if s.rst then { s with cfg := { s.cfg with toConfigInputs := c } }
  else if c = s.cfg.toConfigInputs then s else s.refuse .badConfig

end Sys2Proof.Machine
end

