-- ==== Sys2Proof/Machine/Schedule.lean ====
section
/-! DEFINITION. One turn of the schedule (R5, log entry 6), and placing a table word where the next engine step
takes it (log entry 15). -/

namespace Sys2Proof.Machine

/-- The move of a turn other than reset. -/
def agentMove (t : Turn) (s : State) : Host.Outcome State Fault Refusal :=
  match t with
  | .engine => engineStep s
  | .host r => .next (hostTurn r s)
  | .dispatch v => .next (dispatchTurn v s)
  | .rx b => .next (rxTurn b s)
  | .txSend => .next (txSendTurn s)
  | .flushed => .next (flushedTurn s)
  | .rst level => .next (rstTurn level s)
  | .config c => .next (configTurn c s)

/-- A turn: a run in which a contract violation or a refusal is recorded is over (R12, R203, R207) until
reset begins a new one (R36). -/
def takeTurn (t : Turn) (s : State) : Host.Outcome State Fault Refusal :=
  match t with
  | .rst level => .next (rstTurn level s)
  | t =>
    match s.cvFault, s.refused with
    | some r, _ => .fault (.contractViolation r)
    | none, some r => .refused (.recorded r)
    | none, none => agentMove t s

/-- The next turn: the head of the schedule, the engine's when the schedule is empty. -/
def State.nextTurn (s : State) : Turn := s.turns.headD .engine

/-- The state with the next turn taken off the schedule. -/
def State.popTurn (s : State) : State := { s with turns := s.turns.tail }

/-- The engine's turn is next, in a run that is not over and out of reset. -/
def State.readyToRun (s : State) : State :=
  { s with turns := .engine :: s.turns, rst := false, cvFault := none, refused := none }

/-- A request on the port of an IDLE engine. -/
def State.placeRequest (s : State) (op : BitVec 4) (x : Word32) : State :=
  { s.readyToRun with mode := .idle, req := some ⟨op, x⟩, resp := none }

/-- A byte at the head of RXQ in a POLL in parser state `ps`, the registers a condition reads as `tableCtx`
has them. -/
def State.placeReceive (s : State) (ps : BitVec 3) (b : Byte) : State :=
  let s := { s.readyToRun with mode := .polling, req := some ⟨opPoll, 0⟩, resp := none, ps := ps, rxq := b :: s.rxq }
  if ps = psWFD then { s with dcount := tableCtx.dcount, sizeReg := tableCtx.sizeReg }
  else if ps = psWFK then { s with csum := tableCtx.csum, candAddr := s.cfg.myAddr.getD 0#6 }
  else s

/-- Place a table word (`tableWord`). -/
def State.placeWord (s : State) : CodeWord → State
  | .request op x => s.placeRequest op x
  | .receive rw => s.placeReceive (rw.extractLsb' 8 3) (rw.extractLsb' 0 8)

end Sys2Proof.Machine
end

