-- ==== Sys2Proof/Machine/Step.lean ====
section
/-! DEFINITION. The step: the next turn of the schedule is taken. -/

namespace Sys2Proof.Machine

/-- One step of the machine (R5, R6). -/
def step (s : State) : Host.Outcome State Fault Refusal := takeTurn s.nextTurn s.popTurn

/-- `s` with the instruction of a table word where the next engine step takes it (host interface, log
entry 15). -/
def State.withFetchWord (s : State) (nbits w : Nat) : State := s.placeWord (tableWord nbits w)

end Sys2Proof.Machine
end

