-- ==== Sys2Proof/WellFormed.lean ====
section
/-! DEFINITION. Which terms of Instr stand for a word of their row: the conditions of the opcode table that
speak of the byte alone (R102, R104, R107, R108). -/

namespace Sys2Proof

/-- The conditions on the operand of a row (the `condition` fields of spec/opcode_table.json that name no
register). A push takes every 32-bit argument (R140). -/
def Instr.wellFormed : Instr → Bool
  | .poll | .popU8 | .popS8 | .popU16 | .popS16 | .popU32 | .popS32 | .ack => true
  | .pushU8 _ | .pushS8 _ | .pushU16 _ | .pushS16 _ | .pushU32 _ | .pushS32 _ => true
  | .rxHdr | .rxSize0 => true
  | .rxSkip b => b != hdrCmd
  | .rxAddr _ => true
  | .rxAddrBad b => b.extractLsb' 6 2 != addrTag
  | .rxCmd _ => true
  | .rxSizeN n => n != 0#4
  | .rxSizeBad b => b.extractLsb' 4 4 != ~~~(b.extractLsb' 0 4)
  | .rxData _ | .rxDataLast _ | .rxCsumOk _ | .rxCsumBad _ | .rxAddrMiss _ => true

end Sys2Proof
end

