-- ==== Sys2Proof/Safety.lean ====
section
/-! DEFINITION. What a well-behaved state and a well-behaved observation are: the invariant of R41, R42 and R172,
and the gating of the bus (R172). -/

namespace Sys2Proof.Machine

/-- The ACK phases (R33). -/
def Mode.isAck : Mode → Bool
  | .idle | .polling => false
  | .ackPre | .ackSend | .ackFlush | .ackPost => true

/-- Every index below `n` of a buffer was written (R41). -/
def Memory.filled (m : Memory) (n : Nat) : Prop := ∀ i < n, (m.read i).isSome = true

/-- What every reachable state satisfies. -/
structure Consistent (s : State) : Prop where
  /-- The buffers keep their canonical form. -/
  rxbufWf : s.rxbuf.wf = true
  txbufWf : s.txbuf.wf = true
  /-- `ps` is one of the six states (R42). -/
  parserState : s.ps.toNat ≤ 5
  /-- In WFD, `dcount < size_reg` (R42). -/
  dataCount : s.ps = psWFD → s.dcount.toNat < s.sizeReg.toNat
  /-- In WFD the bytes counted so far were stored (R41). -/
  dataStored : s.ps = psWFD → s.rxbuf.filled s.dcount.toNat
  /-- In WFK the declared data bytes were stored (R41). -/
  packetStored : s.ps = psWFK → s.rxbuf.filled s.sizeReg.toNat
  /-- `rd_cur <= acc_size` while the receive window is open (R42). -/
  readCursor : s.rxwin = true → s.rdCur.toNat ≤ s.accSize.toNat
  /-- The accepted payload was stored (R41). -/
  payloadStored : s.rxwin = true → s.rxbuf.filled s.accSize.toNat
  /-- The pushed bytes were stored (R41). -/
  pushedStored : s.txbuf.filled s.txCur.toNat
  /-- No POLL runs while the receive window is open (R35). -/
  receiveWindow : s.rxwin = true → s.mode ≠ .polling
  /-- The push window is open only inside the receive window and outside every request in progress (R35). -/
  pushWindow : s.txwin = true → s.rxwin = true ∧ s.mode = .idle
  /-- `tx_en = 1` exactly in the ACK phases (R42, R172). -/
  busDriven : s.txEn = s.mode.isAck
  /-- The request in progress is on the port (R82). -/
  pollRequest : s.mode = .polling → s.req.map Request.op = some opPoll
  ackRequest : s.mode.isAck = true → s.req.map Request.op = some opAck
  /-- TxFlushed() holds only with TXQ empty (R39). -/
  flushedEmpty : s.txFlushed = true → s.txq = []
  /-- The bus is released only after the flush (R166, R167). -/
  postFlushed : s.mode = .ackPost → s.txFlushed = true
  /-- While reset is asserted every element with a reset value holds it, and no request is on the port (R230,
  R231). -/
  resetHeld : s.rst = true →
    s.ps = psWFH ∧ s.mode = .idle ∧ s.rdCur = 0#4 ∧ s.txCur = 0#4 ∧ s.txEn = false ∧ s.rxwin = false ∧
      s.txwin = false ∧ s.cvFault = none ∧ s.refused = none ∧ s.req = none
  /-- A run that was not refused has a legal address (R7, R203). -/
  configLegal : s.rst = false → s.refused = none → s.cfg.addressLegal = true

/-- No contract violation and no refusal is recorded (R12). -/
def State.clean (s : State) : Prop := s.cvFault = none ∧ s.refused = none

/-- Follow `tx_en` through the events (R172): absent if a byte is handed over while the bus is released, or
`tx_en` rises or falls out of turn; else the level at the end. -/
def busGate : Bool → List Event → Option Bool
  | e, [] => some e
  | e, .txEnRise :: l => if e then none else busGate true l
  | e, .txByte _ :: l => if e then busGate e l else none
  | e, .txEnFall :: l => if e then busGate false l else none
  | e, .resp _ _ :: l => busGate e l
  | e, .accept _ _ :: l => busGate e l
  | e, .discard _ :: l => busGate e l
  | e, .fault _ :: l => busGate e l

/-- Two states that differ at most in what R41 calls unobservable: the elements whose value is unspecified after
reset, where no rule reads them before writing them. The counter that names the free values may differ too. -/
structure SameVisible (s t : State) : Prop where
  /-- Everything the host, the bus and the transports see, and every register with a reset value. -/
  visible : t = { s with
    csum := t.csum, candAddr := t.candAddr, cmdReg := t.cmdReg, sizeReg := t.sizeReg, dcount := t.dcount,
    rxbuf := t.rxbuf, txbuf := t.txbuf, accCmd := t.accCmd, accSize := t.accSize, txCsum := t.txCsum,
    resets := t.resets }
  /-- Written in WFH, read in WFA..WFK (R41). -/
  csum : s.ps ≠ psWFH → t.csum = s.csum
  /-- Written in WFA, read in WFK. -/
  candAddr : s.ps ≠ psWFH → s.ps ≠ psWFA → t.candAddr = s.candAddr
  /-- Written in WFC, read in WFK. -/
  cmdReg : s.ps = psWFS ∨ s.ps = psWFD ∨ s.ps = psWFK → t.cmdReg = s.cmdReg
  /-- Written in WFS, read in WFD and WFK. -/
  sizeReg : s.ps = psWFD ∨ s.ps = psWFK → t.sizeReg = s.sizeReg
  /-- Written in WFS, read in WFD. -/
  dcount : s.ps = psWFD → t.dcount = s.dcount
  /-- The data bytes of the packet being assembled. -/
  dataBytes : s.ps = psWFD → ∀ i < s.dcount.toNat, t.rxbuf.read i = s.rxbuf.read i
  packetBytes : s.ps = psWFK → ∀ i < s.sizeReg.toNat, t.rxbuf.read i = s.rxbuf.read i
  /-- The accepted payload, read by pops inside the window. -/
  accSize : s.rxwin = true → t.accSize = s.accSize
  payload : s.rxwin = true → ∀ i < s.accSize.toNat, t.rxbuf.read i = s.rxbuf.read i
  /-- The pushed bytes, read by the reply encoder. -/
  pushed : ∀ i < s.txCur.toNat, t.txbuf.read i = s.txbuf.read i

/-! ### A packet being received (R115, R120) -/

/-- The parser state once `k` bytes of a packet with data `d` were taken, fewer than all of it. -/
def phaseAt (d : List Byte) (k : Nat) : BitVec 3 :=
  if k = 0 then psWFH else if k = 1 then psWFA else if k = 2 then psWFC else if k = 3 then psWFS
  else if k < 4 + d.length then psWFD else psWFK

/-- The parser after it took the first `k` bytes of the packet for `a` with command `cmd` and data `d`, the
checksum byte not yet among them, the first in WFH. -/
structure Taken (a : Addr) (cmd : Byte) (d : List Byte) (k : Nat) (s : State) : Prop where
  phase : s.ps = phaseAt d k
  /-- The checksum law (R115). -/
  csum : 1 ≤ k → s.csum = sumBytes ((packet a cmd d).take k)
  candAddr : 2 ≤ k → s.candAddr = a
  cmdReg : 3 ≤ k → s.cmdReg = cmd
  sizeReg : 4 ≤ k → s.sizeReg = declaredSize d
  dcount : 4 ≤ k → k < 4 + d.length → s.dcount.toNat = k - 4
  data : ∀ i < d.length, i + 4 < k → s.rxbuf.read i = d[i]?

/-- The byte the engine takes from RXQ in the next step, if it takes one: it moves, out of reset, in a POLL, and
RXQ holds a byte (R116). -/
def State.takes (s : State) : Option Byte :=
  if s.nextTurn = .engine ∧ s.rst = false ∧ s.mode = .polling then s.rxq.head? else none

/-- An event that says neither that a packet was accepted nor that one was dropped. -/
def Event.quiet : Event → Bool
  | .accept _ _ | .discard _ => false
  | .resp _ x =>
    match x with
    | .ready _ _ => false
    | .notReady | .value _ | .done => true
  | .txEnRise | .txByte _ | .txEnFall | .fault _ => true

/-- The mode after a step of the engine in an ACK phase (R162, R165, R166, R168). -/
def ackNext (flushed : Bool) : Mode → Mode
  | .ackPre => .ackSend
  | .ackSend => .ackFlush
  | .ackFlush => if flushed then .ackPost else .ackFlush
  | .ackPost => .idle
  | .idle => .idle
  | .polling => .polling

/-- `n` steps, if all of them answer a next state. -/
def stepN : Nat → State → Option State
  | 0, s => some s
  | n + 1, s =>
    match step s with
    | .next t => stepN n t
    | .fault _ => none
    | .refused _ => none

end Sys2Proof.Machine
end

