-- ==== Sys2Proof/Certificates/Slice0/Obligations.lean ====
section
/-! DEFINITION. The statements for the provers, from the numbered rules of spec/. The helpers of `Stated` say in the
statements' own words what the spec's `raise` and `respond` write and what a pop and a push do, so that a
statement does not lean on the model's operations. -/

open Sys2Proof Sys2Proof.Machine

namespace Sys2Proof.Stated

/-- What a contract violation writes (R202). -/
def violated (r : Violation) (s : State) : State :=
  { s with cvFault := some r, trace := s.trace ++ [.fault r] }

/-- What a response writes (R10, R82, R84). -/
def answered (op : BitVec 4) (x : Response) (s : State) : State :=
  { s with req := none, resp := some x, trace := s.trace ++ [.resp op x] }

/-- The engine moves next, out of reset, in a run that is not over; an empty schedule lets the engine move (the
model's convention, log entry 6). -/
def engineNext (s : State) : Prop := s.turns = [] ∧ s.rst = false ∧ s.clean

/-- The three cases of a pop of width `w` (R130, R137, R204): outside the window, past the size, else the value
of the bytes at the cursor; `value s v` says which value those bytes have. -/
def popCases (i : Instr) (op : BitVec 4) (w : Nat) (value : State → Word32 → Prop) : Prop :=
  ∀ s : State, s.mode = .idle →
    (s.rxwin = false → exec i s = .next (violated .popOutsideWindow s)) ∧
    (s.rxwin = true → s.accSize.toNat < s.rdCur.toNat + w →
      exec i s = .next (violated .popPastSize s)) ∧
    (s.rxwin = true → s.rdCur.toNat + w ≤ s.accSize.toNat → ∀ v, value s v →
      exec i s = .next (answered op (.value v) { s with rdCur := s.rdCur + BitVec.ofNat 4 w }))

/-- The three cases of a push of width `w` (R140, R147, R204); `l` is the bytes appended, the first at the
lowest index. -/
def pushCases (i : Instr) (op : BitVec 4) (w : Nat) (l : List Byte) : Prop :=
  ∀ s : State, s.mode = .idle →
    (s.txwin = false → exec i s = .next (violated .pushOutsideWindow s)) ∧
    (s.txwin = true → 15 < s.txCur.toNat + w → exec i s = .next (violated .pushOverflow s)) ∧
    (s.txwin = true → s.txCur.toNat + w ≤ 15 → ∃ m : Memory,
      exec i s = .next (answered op .done
        { s with txbuf := m, txCur := s.txCur + BitVec.ofNat 4 w }) ∧
      ∀ a, m.read a =
        if s.txCur.toNat ≤ a ∧ a < s.txCur.toNat + w then l[a - s.txCur.toNat]? else s.txbuf.read a)

/-- The request on the port with the data that no request but a push reads set to 0 (R82). -/
def readBits : CodeWord → CodeWord
  | .request op x => .request op (if 0xA ≤ op.toNat then x else 0)
  | .receive rw => .receive rw

/-- The host requests of R83. -/
def isRequest (i : Instr) : Prop := ∃ op x, encode i = .request op x

/-- The fields a receive row other than RX_CSUM_OK may write are the parser's, `rxbuf` and the observation. -/
def parserOnly (s t : State) : Prop :=
  t = { s with ps := t.ps, csum := t.csum, candAddr := t.candAddr, cmdReg := t.cmdReg, sizeReg := t.sizeReg,
               dcount := t.dcount, rxbuf := t.rxbuf, trace := t.trace }

end Sys2Proof.Stated

open Sys2Proof.Stated

/-! ### Encoding -/

/-- Decoding the word of an instruction gives it back, for every operand, in every register context that
selects its row (R80, R83, R100). -/
def Obligations.EncodedWordDecodes : Prop :=
  ∀ (c : RxCtx) (i : Instr), i.wellFormed = true → i.selectedBy c = true → decode c (encode i) = .ok i

/-- A decoded instruction is well-formed, is selected by the registers, and its word is the one decoded, so no
word has two meanings and no bit that is read is dropped. -/
def Obligations.DecodedWordEncodes : Prop :=
  ∀ (c : RxCtx) (w : CodeWord) (i : Instr), decode c w = .ok i →
    i.wellFormed = true ∧ i.selectedBy c = true ∧ encode i = readBits w

/-- Words written out from R83 and from the table of receive words decode to their rows. -/
def Obligations.SpecWordsDecode : Prop :=
  ∀ c : RxCtx,
    decode c (.request 0x1#4 0) = .ok .poll ∧
    decode c (.request 0x5#4 0) = .ok .popS16 ∧
    decode c (.request 0x8#4 0) = .ok .ack ∧
    decode c (.request 0xE#4 0xDEADBEEF#32) = .ok (.pushU32 0xDEADBEEF#32) ∧
    decode c (.receive 0x0AA#11) = .ok .rxHdr ∧
    decode c (.receive 0x077#11) = .ok (.rxSkip 0x77#8) ∧
    decode c (.receive 0x1BC#11) = .ok (.rxAddr 0x3C#6) ∧
    decode c (.receive 0x13C#11) = .ok (.rxAddrBad 0x3C#8) ∧
    decode c (.receive 0x2AA#11) = .ok (.rxCmd 0xAA#8) ∧
    decode c (.receive 0x3F0#11) = .ok .rxSize0 ∧
    decode c (.receive 0x30F#11) = .ok (.rxSizeN 15#4) ∧
    decode c (.receive 0x3FF#11) = .ok (.rxSizeBad 0xFF#8)

/-- R73: the size byte of `N` is `(15 - N) * 16 + N`, a byte is valid iff its nibbles sum to 15, equivalently iff
its high nibble is the complement of its low one, the valid bytes are exactly the 16 encodings, and the size byte
of a reply with payload is of the same encoding. -/
def Obligations.SizeByteEncoding : Prop :=
  (∀ n : Nibble, (encSize n).toNat = 16 * (15 - n.toNat) + n.toNat) ∧
  (∀ b : Byte, sizeValid b = true ↔ b.toNat / 16 + b.toNat % 16 = 15) ∧
  (∀ b : Byte, sizeValid b = true ↔ b.extractLsb' 4 4 = ~~~(b.extractLsb' 0 4)) ∧
  (∀ b : Byte, sizeValid b = true ↔ ∃ n : Nibble, b = encSize n) ∧
  (((List.range 256).filter fun k => sizeValid (BitVec.ofNat 8 k)).length = 16) ∧
  (∀ d : List Byte, d ≠ [] → d.length ≤ 15 → (dataFrame d)[1]? = some (encSize (BitVec.ofNat 4 d.length)))

/-- R72: the valid address bytes are 0x80..0xBF, address `x` is sent as `0x80 | x`, and the engine takes its low
six bits as `cand_addr`. -/
def Obligations.AddressByteEncoding : Prop :=
  (∀ b : Byte, addrTagged b = true ↔ b.extractLsb' 6 2 = 0b10#2) ∧
  (∀ b : Byte, addrTagged b = true ↔ 0x80 ≤ b.toNat ∧ b.toNat ≤ 0xBF) ∧
  (∀ a : Addr, encAddr a = 0x80#8 ||| a.setWidth 8 ∧ addrLow (encAddr a) = a) ∧
  (∀ (s : State) (b : Byte) (i : Instr), s.mode = .polling → s.ps = 1#3 → addrTagged b = true →
    decode s.rxCtx (.receive (rxWord s.ps b)) = .ok i →
    ∃ t, exec i s = .next t ∧ t.candAddr = b.extractLsb' 0 6)

/-! ### The receive framer -/

/-- R101, R102: in WFH a header byte starts a packet, every other byte is skipped. -/
def Obligations.HeaderByteStartsPacket : Prop :=
  ∀ s : State, s.mode = .polling → s.ps = 0#3 →
    (decode s.rxCtx (.receive (rxWord s.ps 0xAA#8)) = .ok .rxHdr ∧
      exec .rxHdr s = .next { s with csum := 0xAA#8, ps := 1#3 }) ∧
    (∀ b : Byte, b ≠ 0xAA#8 →
      decode s.rxCtx (.receive (rxWord s.ps b)) = .ok (.rxSkip b) ∧
      exec (.rxSkip b) s = .next { s with csum := b })

/-- R103, R104: in WFA a byte with tag 0b10 gives the candidate address, any other ends the packet. -/
def Obligations.AddressByteRecorded : Prop :=
  ∀ (s : State) (b : Byte), s.mode = .polling → s.ps = 1#3 →
    (b.extractLsb' 6 2 = 0b10#2 →
      decode s.rxCtx (.receive (rxWord s.ps b)) = .ok (.rxAddr (b.extractLsb' 0 6)) ∧
      exec (.rxAddr (b.extractLsb' 0 6)) s =
        .next { s with csum := s.csum + b, candAddr := b.extractLsb' 0 6, ps := 2#3 }) ∧
    (b.extractLsb' 6 2 ≠ 0b10#2 →
      decode s.rxCtx (.receive (rxWord s.ps b)) = .ok (.rxAddrBad b) ∧
      exec (.rxAddrBad b) s =
        .next { s with csum := s.csum + b, candAddr := b.extractLsb' 0 6, ps := 0#3,
                       trace := s.trace ++ [.discard .addrTag] })

/-- R105: in WFC every byte is the command. -/
def Obligations.CommandByteRecorded : Prop :=
  ∀ (s : State) (b : Byte), s.mode = .polling → s.ps = 2#3 →
    decode s.rxCtx (.receive (rxWord s.ps b)) = .ok (.rxCmd b) ∧
    exec (.rxCmd b) s = .next { s with csum := s.csum + b, cmdReg := b, ps := 3#3 }

/-- R106, R107, R108: in WFS the byte 0xF0 declares no data, the 15 other valid bytes declare 1..15, every other
byte ends the packet. -/
def Obligations.SizeByteRecorded : Prop :=
  ∀ (s : State) (b : Byte), s.mode = .polling → s.ps = 3#3 →
    (b = 0xF0#8 →
      decode s.rxCtx (.receive (rxWord s.ps b)) = .ok .rxSize0 ∧
      exec .rxSize0 s = .next { s with csum := s.csum + b, sizeReg := 0#4, ps := 5#3 }) ∧
    (b.extractLsb' 4 4 = ~~~(b.extractLsb' 0 4) → b.extractLsb' 0 4 ≠ 0#4 →
      decode s.rxCtx (.receive (rxWord s.ps b)) = .ok (.rxSizeN (b.extractLsb' 0 4)) ∧
      exec (.rxSizeN (b.extractLsb' 0 4)) s =
        .next { s with csum := s.csum + b, sizeReg := b.extractLsb' 0 4, dcount := 0#4, ps := 4#3 }) ∧
    (b.extractLsb' 4 4 ≠ ~~~(b.extractLsb' 0 4) →
      decode s.rxCtx (.receive (rxWord s.ps b)) = .ok (.rxSizeBad b) ∧
      exec (.rxSizeBad b) s =
        .next { s with csum := s.csum + b, sizeReg := b.extractLsb' 0 4, ps := 0#3,
                       trace := s.trace ++ [.discard .sizeNibble] })

/-- R109, R110: in WFD the byte is stored at index `dcount`, every other byte of `rxbuf` reads as before, and the
last one leads to WFK. -/
def Obligations.DataByteStored : Prop :=
  ∀ (s : State) (b : Byte), s.mode = .polling → s.ps = 4#3 →
    (s.dcount.toNat + 1 < s.sizeReg.toNat →
      decode s.rxCtx (.receive (rxWord s.ps b)) = .ok (.rxData b) ∧
      ∃ m : Memory,
        exec (.rxData b) s = .next { s with csum := s.csum + b, rxbuf := m, dcount := s.dcount + 1#4 } ∧
        ∀ a, m.read a = if a = s.dcount.toNat then some b else s.rxbuf.read a) ∧
    (s.dcount.toNat + 1 = s.sizeReg.toNat →
      decode s.rxCtx (.receive (rxWord s.ps b)) = .ok (.rxDataLast b) ∧
      ∃ m : Memory,
        exec (.rxDataLast b) s =
          .next { s with csum := s.csum + b, rxbuf := m, dcount := s.dcount + 1#4, ps := 5#3 } ∧
        ∀ a, m.read a = if a = s.dcount.toNat then some b else s.rxbuf.read a)

/-- R111: a checksum byte that matches, in a packet for `MY_ADDR`, accepts the packet; the POLL completes with
`Ready`. -/
def Obligations.MatchingPacketAccepted : Prop :=
  ∀ s : State, s.mode = .polling → s.ps = 5#3 → s.cfg.myAddr = some s.candAddr →
    decode s.rxCtx (.receive (rxWord s.ps s.csum)) = .ok (.rxCsumOk s.csum) ∧
    exec (.rxCsumOk s.csum) s =
      .next { s with
        accCmd := s.cmdReg, accSize := s.sizeReg, rdCur := 0#4, txCur := 0#4, rxwin := true, txwin := true,
        ps := 0#3, mode := .idle, req := none, resp := some (.ready s.cmdReg s.sizeReg),
        trace := s.trace ++ [.accept s.cmdReg s.sizeReg, .resp 0x1#4 (.ready s.cmdReg s.sizeReg)] }

/-- R112, R113: any other checksum byte discards with CHECKSUM whatever the address; a matching one for another
address discards with ADDRESS. -/
def Obligations.OtherPacketDiscarded : Prop :=
  ∀ (s : State) (b : Byte), s.mode = .polling → s.ps = 5#3 →
    (b ≠ s.csum →
      decode s.rxCtx (.receive (rxWord s.ps b)) = .ok (.rxCsumBad b) ∧
      exec (.rxCsumBad b) s = .next { s with ps := 0#3, trace := s.trace ++ [.discard .checksum] }) ∧
    (∀ a : Addr, b = s.csum → s.cfg.myAddr = some a → s.candAddr ≠ a →
      decode s.rxCtx (.receive (rxWord s.ps b)) = .ok (.rxAddrMiss b) ∧
      exec (.rxAddrMiss b) s = .next { s with ps := 0#3, trace := s.trace ++ [.discard .address] })

/-- R100: in every state that meets the facts of R42, every byte has exactly one row, that row runs, and the
parser state after it is the one of the table. -/
def Obligations.TransitionTableTotal : Prop :=
  ∀ (s : State) (b : Byte), s.mode = .polling → s.ps.toNat ≤ 5 →
    (s.ps = 4#3 → s.dcount.toNat < s.sizeReg.toNat) → s.cfg.addressLegal = true →
    ∃ i t, decode s.rxCtx (.receive (rxWord s.ps b)) = .ok i ∧ exec i s = .next t ∧
      t.ps =
        if s.ps = 0#3 then (if b = 0xAA#8 then 1#3 else 0#3)
        else if s.ps = 1#3 then (if b.extractLsb' 6 2 = 0b10#2 then 2#3 else 0#3)
        else if s.ps = 2#3 then 3#3
        else if s.ps = 3#3 then
          (if b = 0xF0#8 then 5#3 else if b.extractLsb' 4 4 = ~~~(b.extractLsb' 0 4) then 4#3 else 0#3)
        else if s.ps = 4#3 then (if s.dcount.toNat + 1 < s.sizeReg.toNat then 4#3 else 5#3)
        else 0#3

/-- R114: the byte that ends a packet is consumed by that step, and the next byte is interpreted in WFH. -/
def Obligations.EndingByteConsumed : Prop :=
  ∀ (s : State) (b : Byte) (q : List Byte) (i : Instr), engineNext s → s.mode = .polling → s.rxq = b :: q →
    decode s.rxCtx (.receive (rxWord s.ps b)) = .ok i →
    (i = .rxAddrBad b ∨ i = .rxSizeBad b ∨ i = .rxCsumOk b ∨ i = .rxCsumBad b ∨ i = .rxAddrMiss b) →
    ∃ t, step s = .next t ∧ t.ps = 0#3 ∧ t.rxq = q

/-- R116, R118: a POLL closes both windows and enters its loop; on an empty RXQ it responds `NotReady`; else it
takes the oldest byte, and the row of R111 alone ends it, with `Ready` and the rest of RXQ kept. -/
def Obligations.PollLoop : Prop :=
  (∀ s : State, s.mode = .idle →
    exec .poll s = .next { s with rxwin := false, txwin := false, mode := .polling }) ∧
  (∀ s : State, engineNext s → s.mode = .polling → s.rxq = [] →
    step s = .next (answered 0x1#4 .notReady { s with mode := .idle })) ∧
  (∀ (s : State) (b : Byte) (q : List Byte) (i : Instr) (t : State), engineNext s → s.mode = .polling →
    s.rxq = b :: q → decode s.rxCtx (.receive (rxWord s.ps b)) = .ok i → step s = .next t →
    t.rxq = q ∧
    (if i = .rxCsumOk b then
      t.mode = .idle ∧ t.resp = some (.ready t.accCmd t.accSize) ∧
        t.trace = s.trace ++ [.accept t.accCmd t.accSize, .resp 0x1#4 (.ready t.accCmd t.accSize)]
     else t.mode = .polling ∧ t.req = s.req ∧ t.resp = s.resp))

/-- R117: the end of a POLL with `NotReady` and the start of the next POLL leave `ps` and every parser register
as the last byte left them. -/
def Obligations.NotReadyKeepsParser : Prop :=
  ∀ s : State, engineNext s → s.mode = .polling → s.rxq = [] →
    ∃ t u, step s = .next t ∧ t.resp = some .notReady ∧ exec .poll t = .next u ∧ u.mode = .polling ∧
      u.ps = s.ps ∧ u.csum = s.csum ∧ u.candAddr = s.candAddr ∧ u.cmdReg = s.cmdReg ∧
      u.sizeReg = s.sizeReg ∧ u.dcount = s.dcount ∧ u.rxbuf = s.rxbuf

/-- R115: when the engine has taken the bytes of a packet up to its last data byte, the parser is in WFK and
`csum` is the sum modulo 256 of the header, address, command, size and data bytes. -/
def Obligations.ChecksumLaw : Prop :=
  ∀ (s : State) (a : Addr) (cmd : Byte) (d q : List Byte), engineNext s → s.mode = .polling → s.ps = 0#3 →
    d.length ≤ 15 → s.rxq = 0xAA#8 :: encAddr a :: cmd :: encSize (BitVec.ofNat 4 d.length) :: (d ++ q) →
    ∃ t, stepN (4 + d.length) s = some t ∧ t.ps = 5#3 ∧ t.rxq = q ∧ t.mode = .polling ∧
      t.csum = (d.foldl (· + ·) (0xAA#8 + encAddr a + cmd + encSize (BitVec.ofNat 4 d.length))) ∧
      t.candAddr = a ∧ t.cmdReg = cmd ∧ t.sizeReg = BitVec.ofNat 4 d.length ∧
      (∀ k, k < d.length → t.rxbuf.read k = d[k]?) ∧
      (∀ k, d.length ≤ k → t.rxbuf.read k = s.rxbuf.read k) ∧ t.trace = s.trace

/-- R120 item 1 for one POLL: a well-formed packet for `MY_ADDR`, its header byte taken in WFH, gives exactly one
`Ready` with its command and size, its data stand in `rxbuf`, and the bytes after it stay in RXQ. The schedule is
empty and the packet stands in RXQ; every other schedule and every split over POLLs is `PacketProgress`. -/
def Obligations.WellFormedPacketAccepted : Prop :=
  ∀ (s : State) (a : Addr) (cmd : Byte) (d q : List Byte), engineNext s → s.mode = .polling → s.ps = 0#3 →
    d.length ≤ 15 → s.cfg.myAddr = some a → s.rxq = packet a cmd d ++ q →
    ∃ t, stepN (5 + d.length) s = some t ∧ t.mode = .idle ∧ t.ps = 0#3 ∧ t.rxq = q ∧
      t.resp = some (.ready cmd (BitVec.ofNat 4 d.length)) ∧ t.accCmd = cmd ∧
      t.accSize = BitVec.ofNat 4 d.length ∧ t.rdCur = 0#4 ∧ t.txCur = 0#4 ∧ t.rxwin = true ∧
      t.txwin = true ∧ (∀ k, k < d.length → t.rxbuf.read k = d[k]?) ∧
      t.trace = s.trace ++ [.accept cmd (BitVec.ofNat 4 d.length),
        .resp 0x1#4 (.ready cmd (BitVec.ofNat 4 d.length))]

/-- R120 items 2 and 4: with another checksum byte, or for another address, the same bytes give no `Ready`: the
packet is discarded at its checksum byte, with CHECKSUM where that byte is wrong (R204) and else with ADDRESS, in
WFH, and the POLL goes on. -/
def Obligations.CorruptOrForeignPacketDropped : Prop :=
  ∀ (s : State) (a : Addr) (cmd x ck : Byte) (d q : List Byte), engineNext s → s.mode = .polling → s.ps = 0#3 →
    d.length ≤ 15 → s.cfg.addressLegal = true →
    s.rxq = 0xAA#8 :: encAddr a :: cmd :: encSize (BitVec.ofNat 4 d.length) :: (d ++ x :: q) →
    ck = d.foldl (· + ·) (0xAA#8 + encAddr a + cmd + encSize (BitVec.ofNat 4 d.length)) →
    (x ≠ ck ∨ s.cfg.myAddr ≠ some a) →
    ∃ t, stepN (5 + d.length) s = some t ∧ t.mode = .polling ∧ t.ps = 0#3 ∧ t.rxq = q ∧
      t.resp = s.resp ∧ t.trace = s.trace ++ [.discard (if x = ck then .address else .checksum)]

/-- R120 item 5: noise without 0xAA, taken in WFH, is skipped whole; it changes nothing but `csum` and RXQ. -/
def Obligations.NoiseWithoutHeaderSkipped : Prop :=
  ∀ (l : List Byte) (s : State) (q : List Byte), engineNext s → s.mode = .polling → s.ps = 0#3 →
    0xAA#8 ∉ l → s.rxq = l ++ q →
    stepN l.length s = some { s with rxq := q, csum := l.getLastD s.csum }

/-! ### Pops and pushes -/

/-- R131, R132. -/
def Obligations.PopOneByte : Prop :=
  popCases .popU8 0x2#4 1 (fun s v => ∃ b, s.rxbuf.read s.rdCur.toNat = some b ∧ v = b.setWidth 32) ∧
  popCases .popS8 0x3#4 1 (fun s v => ∃ b, s.rxbuf.read s.rdCur.toNat = some b ∧ v = b.signExtend 32)

/-- R133, R134: big-endian. -/
def Obligations.PopTwoBytes : Prop :=
  popCases .popU16 0x4#4 2 (fun s v => ∃ b c, s.rxbuf.read s.rdCur.toNat = some b ∧
    s.rxbuf.read (s.rdCur.toNat + 1) = some c ∧ v = (b ++ c).setWidth 32) ∧
  popCases .popS16 0x5#4 2 (fun s v => ∃ b c, s.rxbuf.read s.rdCur.toNat = some b ∧
    s.rxbuf.read (s.rdCur.toNat + 1) = some c ∧ v = (b ++ c).signExtend 32)

/-- R135, R136: the response bits of both are the same. -/
def Obligations.PopFourBytes : Prop :=
  popCases .popU32 0x6#4 4 (fun s v => ∃ b c d e, s.rxbuf.read s.rdCur.toNat = some b ∧
    s.rxbuf.read (s.rdCur.toNat + 1) = some c ∧ s.rxbuf.read (s.rdCur.toNat + 2) = some d ∧
    s.rxbuf.read (s.rdCur.toNat + 3) = some e ∧ v = b ++ c ++ d ++ e) ∧
  popCases .popS32 0x7#4 4 (fun s v => ∃ b c d e, s.rxbuf.read s.rdCur.toNat = some b ∧
    s.rxbuf.read (s.rdCur.toNat + 1) = some c ∧ s.rxbuf.read (s.rdCur.toNat + 2) = some d ∧
    s.rxbuf.read (s.rdCur.toNat + 3) = some e ∧ v = b ++ c ++ d ++ e)

/-- R141, R142. -/
def Obligations.PushOneByte : Prop :=
  ∀ x : Word32,
    pushCases (.pushU8 x) 0xA#4 1 [x.extractLsb' 0 8] ∧ pushCases (.pushS8 x) 0xB#4 1 [x.extractLsb' 0 8]

/-- R143, R144: the most significant byte first. -/
def Obligations.PushTwoBytes : Prop :=
  ∀ x : Word32,
    pushCases (.pushU16 x) 0xC#4 2 [x.extractLsb' 8 8, x.extractLsb' 0 8] ∧
    pushCases (.pushS16 x) 0xD#4 2 [x.extractLsb' 8 8, x.extractLsb' 0 8]

/-- R145, R146. -/
def Obligations.PushFourBytes : Prop :=
  ∀ x : Word32,
    pushCases (.pushU32 x) 0xE#4 4
      [x.extractLsb' 24 8, x.extractLsb' 16 8, x.extractLsb' 8 8, x.extractLsb' 0 8] ∧
    pushCases (.pushS32 x) 0xF#4 4
      [x.extractLsb' 24 8, x.extractLsb' 16 8, x.extractLsb' 8 8, x.extractLsb' 0 8]

/-- R148: the bytes a push of width `w` appends, read back big-endian with the same signedness and extended to 32
bits, are the argument, for every argument in the range of the type. -/
def Obligations.PushedValueReadsBack : Prop :=
  ∀ (w : Width) (signed : Bool) (x : Word32),
    (if signed then -(2 ^ (8 * w.bytes - 1) : Int) ≤ x.toInt ∧ x.toInt < 2 ^ (8 * w.bytes - 1)
     else x.toNat < 2 ^ (8 * w.bytes)) →
    beValue w signed (beBytes w x) = some x

/-! ### Acknowledgement -/

/-- R161: an ACK closes the push window and raises `tx_en`; without an open window it is a contract violation. -/
def Obligations.AckStart : Prop :=
  ∀ s : State, s.mode = .idle →
    (s.txwin = true →
      exec .ack s =
        .next { s with txwin := false, txEn := true, mode := .ackPre, trace := s.trace ++ [.txEnRise] }) ∧
    (s.txwin = false → exec .ack s = .next (violated .ackOutsideWindow s))

/-- R163, R164, R165: in ACK_SEND the frame is handed to the TX transport byte by byte in order; without payload
it is 0x77, with `N` bytes it is 0x78, the size byte, the bytes of `txbuf` and their checksum. -/
def Obligations.ReplyFrameSent : Prop :=
  ∀ s : State, engineNext s → s.mode = .ackSend →
    (s.txCur = 0#4 → ∀ f, f = (if s.cfg.noDataTrailer then [0x77#8, 0x77#8] else [0x77#8]) →
      step s = .next { s with txCsum := 0x77#8, mode := .ackFlush, txq := s.txq ++ f, txFlushed := false,
                              trace := s.trace ++ f.map Event.txByte }) ∧
    (s.txCur ≠ 0#4 → ∀ d : List Byte, d.length = s.txCur.toNat →
      (∀ k, k < d.length → s.txbuf.read k = d[k]?) →
      ∀ ck f, ck = d.foldl (· + ·) (0x78#8 + (~~~s.txCur ++ s.txCur)) →
        f = [0x78#8, ~~~s.txCur ++ s.txCur] ++ d ++ [ck] →
        step s = .next { s with txCsum := ck, mode := .ackFlush, txq := s.txq ++ f, txFlushed := false,
                                trace := s.trace ++ f.map Event.txByte })

/-- R162, R166, R167, R168: the settle before the frame, the hold until everything is transmitted, and the end
that releases the bus and responds. A hold is a step that changes nothing and R167, R168 are one step (the
model's choices, log entries 7 and 9). -/
def Obligations.AckPhases : Prop :=
  ∀ s : State, engineNext s →
    (s.mode = .ackPre → step s = .next { s with mode := .ackSend }) ∧
    (s.mode = .ackFlush → s.txFlushed = false → step s = .next s) ∧
    (s.mode = .ackFlush → s.txFlushed = true → step s = .next { s with mode := .ackPost }) ∧
    (s.mode = .ackPost →
      step s = .next { s with txEn := false, mode := .idle, req := none, resp := some .done,
                              trace := s.trace ++ [.txEnFall, .resp 0x8#4 .done] })

/-- R160 to R169: an ACK on the port runs from its start to its response: `tx_en` rises, the frame goes out in
order, and after the flush `tx_en` falls and `Done` is given; `tx_cur`, both buffers, `rd_cur` and the parser
are as before. The list of six turns is the model's schedule (log entry 6), and the settle of ACK_POST and the end
of the ACK are its one last step (log entry 9); every other schedule is `AckRunsInOrder`. -/
def Obligations.AckTransaction : Prop :=
  ∀ (s : State) (x : Word32) (d : List Byte) (ts : List Turn), s.mode = .idle → s.rst = false → s.clean →
    s.req = some ⟨0x8#4, x⟩ → s.txwin = true → s.txbuf.readBytes 0 s.txCur.toNat = some d →
    s.turns = [.engine, .engine, .engine, .flushed, .engine, .engine] ++ ts →
    ∃ ck f, (if s.txCur = 0#4 then ck = 0x77#8 ∧ f = noDataFrame s.cfg.noDataTrailer
              else ck = replyCsum d ∧ f = dataFrame d) ∧
      stepN 6 s = some { s with
        turns := ts, txwin := false, txCsum := ck, txq := [], txFlushed := true, mode := .idle, txEn := false,
        req := none, resp := some .done,
        trace := s.trace ++ [.txEnRise] ++ f.map Event.txByte ++ [.txEnFall, .resp 0x8#4 .done] }

/-- R166: while the TX transport never reports the flush, the engine holds in ACK_FLUSH for ever. A hold is a step
that changes nothing (the model's choice, log entry 7). -/
def Obligations.AckHoldsWithoutFlush : Prop :=
  ∀ (n : Nat) (s : State), engineNext s → s.mode = .ackFlush → s.txFlushed = false → stepN n s = some s

/-! ### Contract violations, refusals, reset -/

/-- R202, R55: whatever the instruction, a step of it that records a contract violation writes `cv_fault` and the
event and nothing else. -/
def Obligations.ViolationWritesNothingElse : Prop :=
  ∀ (i : Instr) (s t : State), exec i s = .next t → t.cvFault ≠ s.cvFault →
    ∃ r, t = { s with cvFault := some r, trace := s.trace ++ [.fault r] }

/-- R36, R202, R203, R207: a recorded violation or refusal ends the run; only the reset turn answers a next
state, and it alone clears the marks (that a recorded mark stops the next step is the model's reading, log
entries 4 and 5). -/
def Obligations.MarkedRunIsOver : Prop :=
  (∀ (s : State) (r : Violation), s.cvFault = some r → (∀ b, s.turns.headD .engine ≠ .rst b) →
    step s = .fault (.contractViolation r)) ∧
  (∀ (s : State) (r : RefuseReason), s.cvFault = none → s.refused = some r →
    (∀ b, s.turns.headD .engine ≠ .rst b) → step s = .refused (.recorded r)) ∧
  (∀ s t : State, step s = .next t →
    (s.cvFault ≠ none → t.cvFault ≠ s.cvFault → t.rst = true ∧ t.cvFault = none) ∧
    (s.refused ≠ none → t.refused = none → t.rst = true))

/-- R203, R85, R119, R37: a refusal sets `refused` and nothing else: a reserved code on the port, an oldest byte met
in parser state 6 or 7, an illegal address at the release of reset, a configuration changed out of reset. The
model's choices: the refused byte stays in RXQ (log entry 21), an illegal address is refused at the release of reset
(log entry 12), and a refusal is a next state with its mark (log entry 5). -/
def Obligations.RefusalsRecorded : Prop :=
  (∀ (s : State) (op : BitVec 4) (x : Word32), engineNext s → s.mode = .idle → s.req = some ⟨op, x⟩ →
    op = 0x0#4 ∨ op = 0x9#4 → step s = .next { s with refused := some .reservedRequest }) ∧
  (∀ (s : State) (b : Byte) (q : List Byte), engineNext s → s.mode = .polling → s.rxq = b :: q →
    s.ps = 6#3 ∨ s.ps = 7#3 → step s = .next { s with refused := some .badParserState }) ∧
  (∀ (s : State) (ts : List Turn), s.turns = .rst false :: ts → s.rst = true →
    63 < s.cfg.baseAddr.toNat + s.cfg.boardSel.toNat →
    step s = .next { s with turns := ts, rst := false, refused := some .badConfig }) ∧
  (∀ (s : State) (c : ConfigInputs) (ts : List Turn), s.turns = .config c :: ts → s.rst = false → s.clean →
    c ≠ s.cfg.toConfigInputs → step s = .next { s with turns := ts, refused := some .badConfig })

/-- R83, R85: exactly the codes 0x0 and 0x9 are refused, as reserved; every other code, with every `req_data`, is a
request. -/
def Obligations.ReservedCodesExactly : Prop :=
  ∀ (c : RxCtx) (op : BitVec 4) (x : Word32),
    (decode c (.request op x) = .error .reservedRequest ↔ op = 0x0#4 ∨ op = 0x9#4) ∧
    (op ≠ 0x0#4 → op ≠ 0x9#4 → ∃ i, decode c (.request op x) = .ok i ∧ isRequest i)

/-- R230: what State.reset holds where the spec gives a value; with nothing placed it waits (the hold is log
entry 7, the empty schedule log entry 6). -/
def Obligations.ResetStateValues : Prop :=
  State.reset.ps = 0#3 ∧ State.reset.mode = .idle ∧ State.reset.rdCur = 0#4 ∧ State.reset.txCur = 0#4 ∧
    State.reset.txEn = false ∧ State.reset.rxwin = false ∧ State.reset.txwin = false ∧
    State.reset.cvFault = none ∧ State.reset.refused = none ∧ step State.reset = .next State.reset

/-- R230, R231: asserting `rst` gives the reset column, ends the request without a response, drops `tx_en` with
its event, and leaves RXQ, TXQ and the configuration. That the request ports are empty after it, an already given
response dropped, is the model's reading (log entry 17). -/
def Obligations.ResetTurn : Prop :=
  ∀ (s : State) (ts : List Turn), s.turns = .rst true :: ts → s.rst = false →
    ∃ t, step s = .next t ∧ t.ps = 0#3 ∧ t.mode = .idle ∧ t.rdCur = 0#4 ∧ t.txCur = 0#4 ∧ t.txEn = false ∧
      t.rxwin = false ∧ t.txwin = false ∧ t.cvFault = none ∧ t.refused = none ∧ t.req = none ∧
      t.resp = none ∧ t.rxq = s.rxq ∧ t.txq = s.txq ∧ t.txFlushed = s.txFlushed ∧ t.cfg = s.cfg ∧
      t.trace = s.trace ++ (if s.txEn then [Event.txEnFall] else [])

/-! ### The step, the agents and the frames -/

/-- A step of the engine runs the decoded instruction: the request on the port of an IDLE engine at the state as
it is, the receive word of a POLL at the state with its byte taken. -/
def Obligations.StepRunsDecoded : Prop :=
  (∀ (s : State) (r : Request) (i : Instr), s.nextTurn = .engine → s.rst = false → s.clean →
    s.mode = .idle → s.req = some r → decode s.rxCtx (.request r.op r.data) = .ok i →
    step s = exec i { s with turns := s.turns.tail }) ∧
  (∀ (s : State) (b : Byte) (q : List Byte) (i : Instr), s.nextTurn = .engine → s.rst = false → s.clean →
    s.mode = .polling → s.rxq = b :: q → decode s.rxCtx (.receive (rxWord s.ps b)) = .ok i →
    step s = exec i { s with turns := s.turns.tail, rxq := q })

/-- The next step after `withFetchWord` runs the instruction that `decodeTableWord` reads (the model's own
interface, log entry 15). -/
def Obligations.PlacedWordRuns : Prop :=
  ∀ (s : State) (nbits w : Nat) (i : Instr), s.cfg.addressLegal = true → decodeTableWord nbits w = some i →
    ∃ u, step (s.withFetchWord nbits w) = exec i u ∧ u.turns = s.turns ∧ u.rxq = s.rxq ∧ u.cfg = s.cfg ∧
      u.trace = s.trace ∧ u.rxbuf = s.rxbuf ∧ u.txbuf = s.txbuf

/-- R27, R29, R31, R32, R56, R169: what each family of instructions may write; everything not named is unchanged. -/
def Obligations.InstructionFrames : Prop :=
  ∀ (i : Instr) (s t : State), exec i s = .next t →
    (i = .poll → t = { s with rxwin := t.rxwin, txwin := t.txwin, mode := t.mode }) ∧
    (i = .ack → t = { s with txwin := t.txwin, txEn := t.txEn, mode := t.mode, cvFault := t.cvFault,
                             trace := t.trace }) ∧
    ((i = .popU8 ∨ i = .popS8 ∨ i = .popU16 ∨ i = .popS16 ∨ i = .popU32 ∨ i = .popS32) →
      t = { s with rdCur := t.rdCur, cvFault := t.cvFault, req := t.req, resp := t.resp, trace := t.trace }) ∧
    (∀ x, (i = .pushU8 x ∨ i = .pushS8 x ∨ i = .pushU16 x ∨ i = .pushS16 x ∨ i = .pushU32 x ∨ i = .pushS32 x) →
      t = { s with txbuf := t.txbuf, txCur := t.txCur, cvFault := t.cvFault, req := t.req, resp := t.resp,
                   trace := t.trace }) ∧
    (∀ b, i = .rxCsumOk b →
      t = { s with ps := t.ps, accCmd := t.accCmd, accSize := t.accSize, rdCur := t.rdCur, txCur := t.txCur,
                   rxwin := t.rxwin, txwin := t.txwin, mode := t.mode, req := t.req, resp := t.resp,
                   trace := t.trace }) ∧
    (¬ isRequest i → (∀ b, i ≠ .rxCsumOk b) → parserOnly s t)

/-- R27, R29: only the two data rows change a byte of `rxbuf`, and only at index `dcount`; only a push changes a
byte of `txbuf`, and only the four from `tx_cur` on. -/
def Obligations.BufferBytesChangedOnlyByWriters : Prop :=
  ∀ (i : Instr) (s t : State), exec i s = .next t →
    ((∀ b, i ≠ .rxData b ∧ i ≠ .rxDataLast b) → ∀ a, t.rxbuf.read a = s.rxbuf.read a) ∧
    (∀ a, a ≠ s.dcount.toNat → t.rxbuf.read a = s.rxbuf.read a) ∧
    (∀ a, a < s.txCur.toNat → t.txbuf.read a = s.txbuf.read a) ∧
    (∀ a, s.txCur.toNat + 4 ≤ a → t.txbuf.read a = s.txbuf.read a) ∧
    ((∀ x, i ≠ .pushU8 x ∧ i ≠ .pushS8 x ∧ i ≠ .pushU16 x ∧ i ≠ .pushS16 x ∧ i ≠ .pushU32 x ∧
        i ≠ .pushS32 x) → ∀ a, t.txbuf.read a = s.txbuf.read a)

/-- R38, R60, R171: a step appends one delivered byte to RXQ, or takes its oldest byte in a POLL, or leaves it. -/
def Obligations.ReceiveQueueOrder : Prop :=
  ∀ s t : State, step s = .next t →
    t.rxq = s.rxq ∨ (∃ b, s.nextTurn = .rx b ∧ t.rxq = s.rxq ++ [b]) ∨
      (∃ b, s.nextTurn = .engine ∧ s.mode = .polling ∧ s.rxq = b :: t.rxq)

/-- R180: a host presents a request only to an IDLE engine with no request outstanding, and otherwise has no
move. A turn without a move only leaves the schedule (the model's choice, log entry 6); presenting a request ends the
last response (log entry 8). -/
def Obligations.HostWaitsForResponse : Prop :=
  ∀ (s : State) (r : Request) (ts : List Turn), s.turns = .host r :: ts → s.clean → s.rst = false →
    (s.req = none → s.mode = .idle →
      step s = .next { s with turns := ts, req := some r, resp := none }) ∧
    ((s.req ≠ none ∨ s.mode ≠ .idle) → step s = .next { s with turns := ts })

/-- R38, R39, R60: a step leaves TXQ, or appends the frame of an ACK in ACK_SEND, or is the TX transport taking
the oldest byte or finishing them all; TxFlushed() becomes true only by the last and false only by a frame. -/
def Obligations.TransmitQueueOrder : Prop :=
  ∀ s t : State, step s = .next t →
    (t.txq = s.txq ∧ t.txFlushed = s.txFlushed) ∨
    (∃ f, s.nextTurn = .engine ∧ s.mode = .ackSend ∧ t.txq = s.txq ++ f ∧ f ≠ [] ∧ t.txFlushed = false ∧
      t.trace = s.trace ++ f.map Event.txByte) ∨
    (s.nextTurn = .txSend ∧ t.txq = s.txq.tail ∧ t.txFlushed = s.txFlushed) ∨
    (s.nextTurn = .flushed ∧ t.txq = [] ∧ t.txFlushed = true)

/-- R182, R185, R186: after `Ready(cmd, size)` the dispatcher rejects silently a code it does not serve and every
size that is not 0, but for the one read command that `LITERAL_SIZE_BUG` names; a read command makes one PUSH.U8 of
its input's level and an ACK, every other one an ACK. The codes are parameters (log entry 19); that the response
is gone once the dispatcher has looked at it is the model's reading (log entry 8). -/
def Obligations.DispatcherServesCommands : Prop :=
  ∀ (s : State) (v : Sensors) (cmd : Byte) (size : Nibble) (ts : List Turn), s.turns = .dispatch v :: ts →
    s.clean → s.rst = false → s.req = none → s.mode = .idle → s.hostq = [] →
    s.resp = some (.ready cmd size) →
    (commandOf s.hostParams cmd = none → step s = .next { s with turns := ts, resp := none }) ∧
    (∀ k, commandOf s.hostParams cmd = some k → size ≠ 0#4 →
      (∀ x, k = .read x → s.hostParams.literalSizeBug ≠ some x) →
      step s = .next { s with turns := ts, resp := none }) ∧
    (∀ x, commandOf s.hostParams cmd = some (.read x) →
      size = 0#4 ∨ s.hostParams.literalSizeBug = some x →
      step s = .next { s with
        turns := ts, resp := none, hostq := [⟨0xA#4, if v.level x then 1 else 0⟩, ⟨0x8#4, 0⟩] }) ∧
    (∀ k, commandOf s.hostParams cmd = some k → (∀ x, k ≠ .read x) → size = 0#4 →
      step s = .next { s with turns := ts, resp := none, hostq := [⟨0x8#4, 0⟩] })

/-- R182: the dispatcher presents the next request of the command it serves; with none left and no `Ready` to look
at it begins a cycle with POLL; while a request is outstanding it has no move. A turn without a move only leaves the
schedule (the model's choice, log entry 6); presenting a request ends the last response (log entry 8). -/
def Obligations.DispatcherCycle : Prop :=
  ∀ (s : State) (v : Sensors) (ts : List Turn), s.turns = .dispatch v :: ts → s.clean → s.rst = false →
    (∀ r q, s.req = none → s.mode = .idle → s.hostq = r :: q →
      step s = .next { s with turns := ts, req := some r, resp := none, hostq := q }) ∧
    (s.req = none → s.mode = .idle → s.hostq = [] → (∀ c n, s.resp ≠ some (.ready c n)) →
      step s = .next { s with turns := ts, req := some ⟨0x1#4, 0⟩, resp := none }) ∧
    ((s.req ≠ none ∨ s.mode ≠ .idle) → step s = .next { s with turns := ts })

/-- R37, R63: the configuration changes only while reset is asserted, and P_NODATA_TRAILER, fixed at build time, never
does; after reset it has its legal value 0. -/
def Obligations.ConfigurationStatic : Prop :=
  (∀ s t : State, step s = .next t →
    (s.rst = false → t.cfg = s.cfg) ∧ t.cfg.noDataTrailer = s.cfg.noDataTrailer) ∧
  State.reset.cfg.noDataTrailer = false

/-! ### Invariants -/

/-- The reset state meets the invariant of R41, R42 and R172. -/
def Obligations.ResetMeetsInvariant : Prop := Consistent State.reset

/-- R41, R42, R172: every step of every agent keeps the invariant. -/
def Obligations.StepKeepsInvariant : Prop := ∀ s t : State, Consistent s → step s = .next t → Consistent t

/-- R41, R12: from a state that meets the invariant, in a run that is not over, every step answers a next state: no
read of an unwritten byte, no request at a busy engine. It refuses nothing but a reserved request code and a bad
configuration: no byte is without a row and no parser state is bad. (A refusal recorded in the next state is log
entry 5.) -/
def Obligations.InvariantStatesStep : Prop :=
  ∀ s : State, Consistent s → s.clean → ∃ t, step s = .next t ∧
    t.refused ≠ some .noReceiveRow ∧ t.refused ≠ some .badParserState ∧
    (t.refused = some .reservedRequest →
      s.nextTurn = .engine ∧ s.mode = .idle ∧
        (s.req.map Request.op = some 0x0#4 ∨ s.req.map Request.op = some 0x9#4)) ∧
    (t.refused = some .badConfig → s.nextTurn ≠ .engine)

/-- R172: `tx_en` changes only at the start of an ACK (to 1), at its end after the flush (to 0), and by reset (to
0). -/
def Obligations.TransmitEnableGated : Prop :=
  ∀ s t : State, Consistent s → step s = .next t → t.txEn ≠ s.txEn →
    (t.txEn = true ∧ s.mode = .idle ∧ t.mode = .ackPre ∧ s.req.map Request.op = some 0x8#4) ∨
    (t.txEn = false ∧ s.mode = .ackPost ∧ s.txFlushed = true ∧ t.resp = some .done) ∨
    (t.txEn = false ∧ s.nextTurn = .rst true)

/-- R172: in the observation every `TxByte` lies between a `TxEnRise` and the next `TxEnFall`, and `tx_en` is the
level they leave. -/
def Obligations.BusGateKept : Prop :=
  ∀ s t : State, Consistent s → busGate false s.trace = some s.txEn → step s = .next t →
    busGate false t.trace = some t.txEn

/-- R41: the values that reset leaves unspecified are unobservable: two states that differ only in them take the
same kind of step and stay so, with the same observation. -/
def Obligations.UnspecifiedValuesUnobservable : Prop :=
  ∀ s t : State, SameVisible s t →
    match step s, step t with
    | .next s', .next t' => SameVisible s' t' ∧ t'.trace = s'.trace
    | .fault r, .fault r' => r' = r
    | .refused r, .refused r' => r' = r
    | _, _ => False

/-! ### Every schedule -/

/-- R38, R39, R65, R243: a delivered byte changes RXQ alone, a byte leaving the line TXQ alone, the flush TXQ and
TxFlushed alone, whatever the engine is doing, also while reset is asserted. (A turn leaves the schedule, log
entry 6; how the transports move is log entry 18.) -/
def Obligations.TransportTurnsFrame : Prop :=
  ∀ (s : State) (ts : List Turn), s.clean →
    (∀ b, s.turns = .rx b :: ts → step s = .next { s with turns := ts, rxq := s.rxq ++ [b] }) ∧
    (s.turns = .txSend :: ts → step s = .next { s with turns := ts, txq := s.txq.tail }) ∧
    (s.turns = .flushed :: ts → step s = .next { s with turns := ts, txq := [], txFlushed := true })

/-- R170, R171: from a state that meets the invariant, in an ACK phase, under every turn: the engine's turn goes to
the next phase in order, or holds in ACK_FLUSH, takes no received byte, and responds only at the end; reset ends
the ACK without a response; no other turn ends it, changes `tx_en` or presents a request. (The hold is log entry 7,
the merged end log entry 9, the turns log entry 6.) -/
def Obligations.AckRunsInOrder : Prop :=
  ∀ s t : State, Consistent s → s.mode.isAck = true → step s = .next t →
    (s.nextTurn = .engine →
      t.mode = ackNext s.txFlushed s.mode ∧ t.rxq = s.rxq ∧ t.txEn = (s.mode != .ackPost) ∧
      (if s.mode = .ackPost then t.req = none ∧ t.resp = some .done else t.req = s.req ∧ t.resp = s.resp)) ∧
    (s.nextTurn = .rst true → t.mode = .idle ∧ t.txEn = false ∧ t.req = none ∧ t.resp = none) ∧
    (s.nextTurn ≠ .engine → s.nextTurn ≠ .rst true →
      t.mode = s.mode ∧ t.txEn = true ∧ t.req = s.req ∧ t.resp = s.resp ∧ t.trace = s.trace)

/-- R230, R233: while `rst` is asserted the engine and the host have no move and the configuration may be set; the
release with a legal address changes nothing else, and in a state that meets the invariant the elements with a
reset value hold it then. (The hold is log entry 7, a turn without a move log entry 6, the check at the release log
entry 12.) -/
def Obligations.ResetHeldAndReleased : Prop :=
  ∀ s : State, s.rst = true →
    (s.clean → s.nextTurn = .engine → step s = .next { s with turns := s.turns.tail }) ∧
    (∀ r ts, s.clean → s.turns = .host r :: ts → step s = .next { s with turns := ts }) ∧
    (∀ v ts, s.clean → s.turns = .dispatch v :: ts → step s = .next { s with turns := ts }) ∧
    (∀ c ts, s.clean → s.turns = .config c :: ts →
      step s = .next { s with turns := ts, cfg := { s.cfg with toConfigInputs := c } }) ∧
    (∀ ts, s.turns = .rst true :: ts → step s = .next { s with turns := ts }) ∧
    (∀ ts, s.turns = .rst false :: ts → s.cfg.baseAddr.toNat + s.cfg.boardSel.toNat ≤ 63 →
      step s = .next { s with turns := ts, rst := false }) ∧
    (Consistent s → s.ps = 0#3 ∧ s.mode = .idle ∧ s.rdCur = 0#4 ∧ s.txCur = 0#4 ∧ s.txEn = false ∧
      s.rxwin = false ∧ s.txwin = false ∧ s.cvFault = none ∧ s.refused = none)

/-- R115, R116, R117, R120: the step lemma of a packet, under every turn but the assertion of reset, so for every way
its bytes are split over POLLs and every interleaving. With `k` bytes of the packet taken: a step that takes no byte
keeps that and says nothing of an acceptance or a discard; taking the packet's next byte gives `k + 1` bytes taken;
in WFH a byte that is no header is skipped; the checksum byte accepts the packet with `Ready` and its data in
`rxbuf` if it is right and the address is this device's, and else discards it and the POLL goes on. (The turns are
log entry 6.) -/
def Obligations.PacketProgress : Prop :=
  ∀ (a : Addr) (cmd : Byte) (d : List Byte) (k : Nat) (s t : State), d.length ≤ 15 → k ≤ 4 + d.length →
    Taken a cmd d k s → s.nextTurn ≠ .rst true → step s = .next t →
    (s.takes = none → Taken a cmd d k t ∧ ∃ l, t.trace = s.trace ++ l ∧ ∀ e ∈ l, e.quiet = true) ∧
    (∀ b, s.takes = some b →
      (k < 4 + d.length → (packet a cmd d)[k]? = some b →
        Taken a cmd d (k + 1) t ∧ t.mode = .polling ∧ t.trace = s.trace) ∧
      (k = 0 → b ≠ 0xAA#8 → Taken a cmd d 0 t ∧ t.mode = .polling ∧ t.trace = s.trace) ∧
      (k = 4 + d.length → (packet a cmd d)[k]? = some b → s.cfg.myAddr = some a →
        t.mode = .idle ∧ t.ps = 0#3 ∧ t.rxwin = true ∧ t.txwin = true ∧ t.rdCur = 0#4 ∧ t.txCur = 0#4 ∧
        t.accCmd = cmd ∧ t.accSize = BitVec.ofNat 4 d.length ∧ (∀ i, i < d.length → t.rxbuf.read i = d[i]?) ∧
        t.resp = some (.ready cmd (BitVec.ofNat 4 d.length)) ∧
        t.trace = s.trace ++ [.accept cmd (BitVec.ofNat 4 d.length),
          .resp 0x1#4 (.ready cmd (BitVec.ofNat 4 d.length))]) ∧
      (k = 4 + d.length → s.cfg.addressLegal = true →
        (packet a cmd d)[k]? ≠ some b ∨ s.cfg.myAddr ≠ some a →
        t.mode = .polling ∧ t.ps = 0#3 ∧ t.resp = s.resp ∧
        t.trace = s.trace ++ [.discard (if (packet a cmd d)[k]? = some b then .address else .checksum)]))

/-- R183, R185: which parameter code is which command, for codes that are distinct (spec/92 D30): read-sensor-A is
0x02, no other code is a command, no command declares data, and each read command samples its own input. -/
def Obligations.DispatcherCommandCodes : Prop :=
  ∀ p : HostParams, p.codesDistinct →
    commandOf p 0x02#8 = some (.read .a) ∧ commandOf p p.cmdPing = some .ping ∧
    commandOf p p.cmdInit = some .init ∧ commandOf p p.cmdReadB = some (.read .b) ∧
    commandOf p p.cmdReadC = some (.read .c) ∧ commandOf p p.cmdReadD = some (.read .d) ∧
    commandOf p p.cmdOutOn = some .outOn ∧ commandOf p p.cmdOutOff = some .outOff ∧
    (∀ c, c ∉ [0x02#8, p.cmdPing, p.cmdInit, p.cmdReadB, p.cmdReadC, p.cmdReadD, p.cmdOutOn, p.cmdOutOff] →
      commandOf p c = none) ∧
    (∀ k : Command, k.sizeIn = 0#4) ∧
    (∀ v : Sensors, v.level .a = v.a ∧ v.level .b = v.b ∧ v.level .c = v.c ∧ v.level .d = v.d)
end

