-- ==== Sys2Proof/Laws/Memory.lean ====
section
/-! SUPPORT. The laws of the buffers: read after write, the canonical form kept by every operation, and which
bytes a multi-byte write changes. -/

namespace Sys2Proof

@[simp] theorem bufCap_eq : bufCap = 16 := rfl
@[simp] theorem maxPayload_eq : maxPayload = 15 := rfl

end Sys2Proof

namespace Sys2Proof.Machine

theorem Memory.read_write (m : Memory) (i j : Nat) (x : Byte) :
    (Memory.write m i x).read j = if j = i then some x else m.read j := by
  induction m with
  | nil => simp [Memory.write, Memory.read]
  | cons c m ih =>
    obtain ⟨a, b⟩ := c
    simp only [Memory.write]
    split_ifs <;> simp only [Memory.read, ih] <;> split_ifs <;> first | rfl | omega

@[simp] theorem Memory.read_write_same (m : Memory) (i : Nat) (x : Byte) :
    (Memory.write m i x).read i = some x := by simp [Memory.read_write]

theorem Memory.read_write_other (m : Memory) {i j : Nat} (x : Byte) (h : j ≠ i) :
    (Memory.write m i x).read j = m.read j := by simp [Memory.read_write, h]

/-- The canonical form as one ordering fact: every listed index is below 16 and above `lo`. -/
theorem Memory.wf_cons (a : Nat) (b : Byte) (m : Memory) :
    Memory.wf ((a, b) :: m) = true ↔ a < 16 ∧ (∀ c ∈ m.head?, a < c.1) ∧ Memory.wf m = true := by
  cases m with
  | nil => simp [Memory.wf]
  | cons c m =>
    obtain ⟨a', b'⟩ := c
    simp only [Memory.wf, Bool.and_eq_true, decide_eq_true_eq, List.head?_cons, Option.mem_def,
      Option.some.injEq, forall_eq']
    constructor
    · rintro ⟨h1, h2⟩
      refine ⟨?_, h1, h2⟩
      have h3 : a' < 16 := by
        cases m with
        | nil => simpa [Memory.wf] using h2
        | cons d m =>
          obtain ⟨a2, b2⟩ := d
          have : ∀ (m : Memory) (a : Nat) (b : Byte), Memory.wf ((a, b) :: m) = true → a < 16 := by
            intro m
            induction m with
            | nil => intro a b h; simpa [Memory.wf] using h
            | cons e m ih =>
              intro a b h
              obtain ⟨a3, b3⟩ := e
              simp only [Memory.wf, Bool.and_eq_true, decide_eq_true_eq] at h
              exact lt_trans h.1 (ih a3 b3 h.2)
          exact this _ _ _ h2
      exact lt_trans h1 h3
    · rintro ⟨-, h1, h2⟩
      exact ⟨h1, h2⟩

theorem Memory.wf_write (m : Memory) (i : Nat) (x : Byte) (h : m.wf = true) (hi : i < 16) :
    (Memory.write m i x).wf = true := by
  induction m with
  | nil => simp [Memory.write, Memory.wf, hi]
  | cons c m ih =>
    obtain ⟨a, b⟩ := c
    have hc := (Memory.wf_cons a b m).1 h
    simp only [Memory.write]
    split_ifs with h1 h2
    · exact (Memory.wf_cons _ _ _).2 ⟨hi, by simpa using h1, h⟩
    · subst h2
      exact (Memory.wf_cons _ _ _).2 hc
    · refine (Memory.wf_cons _ _ _).2 ⟨hc.1, ?_, ih hc.2.2⟩
      have hne : a < i := by omega
      cases m with
      | nil => simpa [Memory.write] using hne
      | cons d m =>
        obtain ⟨a', b'⟩ := d
        have ha : a < a' := by simpa using hc.2.1
        simp only [Memory.write]
        split_ifs <;> simp [hne, ha]

theorem Memory.wf_writeBytes (l : List Byte) : ∀ (m : Memory) (i : Nat), m.wf = true → i + l.length ≤ 16 →
    (Memory.writeBytes m i l).wf = true := by
  induction l with
  | nil => intro m i h _; exact h
  | cons b l ih =>
    intro m i h hi
    simp only [List.length_cons] at hi
    exact ih _ _ (Memory.wf_write m i b h (by omega)) (by omega)

/-- A multi-byte write changes no index outside its own bytes. -/
theorem Memory.read_writeBytes_outside (l : List Byte) : ∀ (m : Memory) (i j : Nat),
    (j < i ∨ i + l.length ≤ j) → (Memory.writeBytes m i l).read j = m.read j := by
  induction l with
  | nil => intro m i j _; rfl
  | cons b l ih =>
    intro m i j h
    simp only [List.length_cons] at h
    simp only [Memory.writeBytes]
    rw [ih _ _ _ (by omega), Memory.read_write_other _ _ (by omega)]

/-- A multi-byte write puts byte `k` at index `i + k` (R51). -/
theorem Memory.read_writeBytes_inside (l : List Byte) : ∀ (m : Memory) (i k : Nat), k < l.length →
    (Memory.writeBytes m i l).read (i + k) = l[k]? := by
  induction l with
  | nil => intro m i k h; simp at h
  | cons b l ih =>
    intro m i k h
    simp only [Memory.writeBytes]
    cases k with
    | zero => rw [Memory.read_writeBytes_outside _ _ _ _ (by omega)]; simp
    | succ k =>
      have h' : k < l.length := by simpa using h
      have := ih (m.write i b) (i + 1) k h'
      rw [show i + (k + 1) = i + 1 + k by omega, this]
      simp

theorem Memory.filled_mono {m : Memory} {n k : Nat} (h : m.filled n) (hk : k ≤ n) : m.filled k :=
  fun i hi => h i (lt_of_lt_of_le hi hk)

theorem Memory.filled_write {m : Memory} {n : Nat} (i : Nat) (x : Byte) (h : m.filled n) :
    (Memory.write m i x).filled n := by
  intro j hj
  rw [Memory.read_write]
  split_ifs
  · rfl
  · exact h j hj

theorem Memory.filled_write_next {m : Memory} {n : Nat} (x : Byte) (h : m.filled n) :
    (Memory.write m n x).filled (n + 1) := by
  intro j hj
  rw [Memory.read_write]
  split_ifs with h1
  · rfl
  · exact h j (by omega)

theorem Memory.filled_writeBytes (l : List Byte) : ∀ {m : Memory} {n : Nat}, m.filled n →
    (Memory.writeBytes m n l).filled (n + l.length) := by
  induction l with
  | nil => intro m n h; exact h
  | cons b l ih =>
    intro m n h
    have := ih (Memory.filled_write_next b h)
    simpa [Memory.writeBytes, Nat.add_comm, Nat.add_left_comm, Nat.add_assoc] using this

/-- Filled bytes can be read, and as many bytes come back as were asked for. -/
theorem Memory.readBytes_of_filled (n : Nat) : ∀ {m : Memory} {i k : Nat}, m.filled k → i + n ≤ k →
    ∃ l, m.readBytes i n = some l ∧ l.length = n := by
  induction n with
  | zero => intro m i k _ _; exact ⟨[], rfl, rfl⟩
  | succ n ih =>
    intro m i k h hk
    obtain ⟨b, hb⟩ := Option.isSome_iff_exists.1 (h i (by omega))
    obtain ⟨l, hl, hn⟩ := ih (i := i + 1) h (by omega)
    exact ⟨b :: l, by simp [Memory.readBytes, hb, hl], by simp [hn]⟩

theorem Memory.readBytes_length (n : Nat) : ∀ {m : Memory} {i : Nat} {l : List Byte},
    m.readBytes i n = some l → l.length = n := by
  induction n with
  | zero => intro m i l h; simp [Memory.readBytes] at h; simp [← h]
  | succ n ih =>
    intro m i l h
    simp only [Memory.readBytes] at h
    split at h
    · simp only [Option.some.injEq] at h
      rename_i h2
      rw [← h, List.length_cons, ih h2]
    · cases h

end Sys2Proof.Machine
end

