-- ==== Sys2Proof/Laws/State.lean ====
section
/-! SUPPORT. One lemma per field per shared update of the State record. -/

namespace Sys2Proof.Machine

variable (s : State)

@[simp] theorem State.emit_ps (e : Event) : (s.emit e).ps = s.ps := rfl
@[simp] theorem State.emit_csum (e : Event) : (s.emit e).csum = s.csum := rfl
@[simp] theorem State.emit_candAddr (e : Event) : (s.emit e).candAddr = s.candAddr := rfl
@[simp] theorem State.emit_cmdReg (e : Event) : (s.emit e).cmdReg = s.cmdReg := rfl
@[simp] theorem State.emit_sizeReg (e : Event) : (s.emit e).sizeReg = s.sizeReg := rfl
@[simp] theorem State.emit_dcount (e : Event) : (s.emit e).dcount = s.dcount := rfl
@[simp] theorem State.emit_rxbuf (e : Event) : (s.emit e).rxbuf = s.rxbuf := rfl
@[simp] theorem State.emit_rdCur (e : Event) : (s.emit e).rdCur = s.rdCur := rfl
@[simp] theorem State.emit_txbuf (e : Event) : (s.emit e).txbuf = s.txbuf := rfl
@[simp] theorem State.emit_txCur (e : Event) : (s.emit e).txCur = s.txCur := rfl
@[simp] theorem State.emit_accCmd (e : Event) : (s.emit e).accCmd = s.accCmd := rfl
@[simp] theorem State.emit_accSize (e : Event) : (s.emit e).accSize = s.accSize := rfl
@[simp] theorem State.emit_txCsum (e : Event) : (s.emit e).txCsum = s.txCsum := rfl
@[simp] theorem State.emit_mode (e : Event) : (s.emit e).mode = s.mode := rfl
@[simp] theorem State.emit_txEn (e : Event) : (s.emit e).txEn = s.txEn := rfl
@[simp] theorem State.emit_rxwin (e : Event) : (s.emit e).rxwin = s.rxwin := rfl
@[simp] theorem State.emit_txwin (e : Event) : (s.emit e).txwin = s.txwin := rfl
@[simp] theorem State.emit_cvFault (e : Event) : (s.emit e).cvFault = s.cvFault := rfl
@[simp] theorem State.emit_refused (e : Event) : (s.emit e).refused = s.refused := rfl
@[simp] theorem State.emit_cfg (e : Event) : (s.emit e).cfg = s.cfg := rfl
@[simp] theorem State.emit_rst (e : Event) : (s.emit e).rst = s.rst := rfl
@[simp] theorem State.emit_req (e : Event) : (s.emit e).req = s.req := rfl
@[simp] theorem State.emit_resp (e : Event) : (s.emit e).resp = s.resp := rfl
@[simp] theorem State.emit_rxq (e : Event) : (s.emit e).rxq = s.rxq := rfl
@[simp] theorem State.emit_txq (e : Event) : (s.emit e).txq = s.txq := rfl
@[simp] theorem State.emit_txFlushed (e : Event) : (s.emit e).txFlushed = s.txFlushed := rfl
@[simp] theorem State.emit_hostq (e : Event) : (s.emit e).hostq = s.hostq := rfl
@[simp] theorem State.emit_hostParams (e : Event) : (s.emit e).hostParams = s.hostParams := rfl
@[simp] theorem State.emit_turns (e : Event) : (s.emit e).turns = s.turns := rfl
@[simp] theorem State.emit_trace (e : Event) : (s.emit e).trace = s.trace ++ [e] := rfl
@[simp] theorem State.emit_resets (e : Event) : (s.emit e).resets = s.resets := rfl

@[simp] theorem State.respond_ps (op : BitVec 4) (x : Response) : (s.respond op x).ps = s.ps := rfl
@[simp] theorem State.respond_csum (op : BitVec 4) (x : Response) : (s.respond op x).csum = s.csum := rfl
@[simp] theorem State.respond_candAddr (op : BitVec 4) (x : Response) : (s.respond op x).candAddr = s.candAddr := rfl
@[simp] theorem State.respond_cmdReg (op : BitVec 4) (x : Response) : (s.respond op x).cmdReg = s.cmdReg := rfl
@[simp] theorem State.respond_sizeReg (op : BitVec 4) (x : Response) : (s.respond op x).sizeReg = s.sizeReg := rfl
@[simp] theorem State.respond_dcount (op : BitVec 4) (x : Response) : (s.respond op x).dcount = s.dcount := rfl
@[simp] theorem State.respond_rxbuf (op : BitVec 4) (x : Response) : (s.respond op x).rxbuf = s.rxbuf := rfl
@[simp] theorem State.respond_rdCur (op : BitVec 4) (x : Response) : (s.respond op x).rdCur = s.rdCur := rfl
@[simp] theorem State.respond_txbuf (op : BitVec 4) (x : Response) : (s.respond op x).txbuf = s.txbuf := rfl
@[simp] theorem State.respond_txCur (op : BitVec 4) (x : Response) : (s.respond op x).txCur = s.txCur := rfl
@[simp] theorem State.respond_accCmd (op : BitVec 4) (x : Response) : (s.respond op x).accCmd = s.accCmd := rfl
@[simp] theorem State.respond_accSize (op : BitVec 4) (x : Response) : (s.respond op x).accSize = s.accSize := rfl
@[simp] theorem State.respond_txCsum (op : BitVec 4) (x : Response) : (s.respond op x).txCsum = s.txCsum := rfl
@[simp] theorem State.respond_mode (op : BitVec 4) (x : Response) : (s.respond op x).mode = s.mode := rfl
@[simp] theorem State.respond_txEn (op : BitVec 4) (x : Response) : (s.respond op x).txEn = s.txEn := rfl
@[simp] theorem State.respond_rxwin (op : BitVec 4) (x : Response) : (s.respond op x).rxwin = s.rxwin := rfl
@[simp] theorem State.respond_txwin (op : BitVec 4) (x : Response) : (s.respond op x).txwin = s.txwin := rfl
@[simp] theorem State.respond_cvFault (op : BitVec 4) (x : Response) : (s.respond op x).cvFault = s.cvFault := rfl
@[simp] theorem State.respond_refused (op : BitVec 4) (x : Response) : (s.respond op x).refused = s.refused := rfl
@[simp] theorem State.respond_cfg (op : BitVec 4) (x : Response) : (s.respond op x).cfg = s.cfg := rfl
@[simp] theorem State.respond_rst (op : BitVec 4) (x : Response) : (s.respond op x).rst = s.rst := rfl
@[simp] theorem State.respond_req (op : BitVec 4) (x : Response) : (s.respond op x).req = none := rfl
@[simp] theorem State.respond_resp (op : BitVec 4) (x : Response) : (s.respond op x).resp = some x := rfl
@[simp] theorem State.respond_rxq (op : BitVec 4) (x : Response) : (s.respond op x).rxq = s.rxq := rfl
@[simp] theorem State.respond_txq (op : BitVec 4) (x : Response) : (s.respond op x).txq = s.txq := rfl
@[simp] theorem State.respond_txFlushed (op : BitVec 4) (x : Response) : (s.respond op x).txFlushed = s.txFlushed := rfl
@[simp] theorem State.respond_hostq (op : BitVec 4) (x : Response) : (s.respond op x).hostq = s.hostq := rfl
@[simp] theorem State.respond_hostParams (op : BitVec 4) (x : Response) : (s.respond op x).hostParams = s.hostParams := rfl
@[simp] theorem State.respond_turns (op : BitVec 4) (x : Response) : (s.respond op x).turns = s.turns := rfl
@[simp] theorem State.respond_trace (op : BitVec 4) (x : Response) : (s.respond op x).trace = s.trace ++ [.resp op x] := rfl
@[simp] theorem State.respond_resets (op : BitVec 4) (x : Response) : (s.respond op x).resets = s.resets := rfl

@[simp] theorem State.discard_ps (r : Discard) : (s.discard r).ps = psWFH := rfl
@[simp] theorem State.discard_csum (r : Discard) : (s.discard r).csum = s.csum := rfl
@[simp] theorem State.discard_candAddr (r : Discard) : (s.discard r).candAddr = s.candAddr := rfl
@[simp] theorem State.discard_cmdReg (r : Discard) : (s.discard r).cmdReg = s.cmdReg := rfl
@[simp] theorem State.discard_sizeReg (r : Discard) : (s.discard r).sizeReg = s.sizeReg := rfl
@[simp] theorem State.discard_dcount (r : Discard) : (s.discard r).dcount = s.dcount := rfl
@[simp] theorem State.discard_rxbuf (r : Discard) : (s.discard r).rxbuf = s.rxbuf := rfl
@[simp] theorem State.discard_rdCur (r : Discard) : (s.discard r).rdCur = s.rdCur := rfl
@[simp] theorem State.discard_txbuf (r : Discard) : (s.discard r).txbuf = s.txbuf := rfl
@[simp] theorem State.discard_txCur (r : Discard) : (s.discard r).txCur = s.txCur := rfl
@[simp] theorem State.discard_accCmd (r : Discard) : (s.discard r).accCmd = s.accCmd := rfl
@[simp] theorem State.discard_accSize (r : Discard) : (s.discard r).accSize = s.accSize := rfl
@[simp] theorem State.discard_txCsum (r : Discard) : (s.discard r).txCsum = s.txCsum := rfl
@[simp] theorem State.discard_mode (r : Discard) : (s.discard r).mode = s.mode := rfl
@[simp] theorem State.discard_txEn (r : Discard) : (s.discard r).txEn = s.txEn := rfl
@[simp] theorem State.discard_rxwin (r : Discard) : (s.discard r).rxwin = s.rxwin := rfl
@[simp] theorem State.discard_txwin (r : Discard) : (s.discard r).txwin = s.txwin := rfl
@[simp] theorem State.discard_cvFault (r : Discard) : (s.discard r).cvFault = s.cvFault := rfl
@[simp] theorem State.discard_refused (r : Discard) : (s.discard r).refused = s.refused := rfl
@[simp] theorem State.discard_cfg (r : Discard) : (s.discard r).cfg = s.cfg := rfl
@[simp] theorem State.discard_rst (r : Discard) : (s.discard r).rst = s.rst := rfl
@[simp] theorem State.discard_req (r : Discard) : (s.discard r).req = s.req := rfl
@[simp] theorem State.discard_resp (r : Discard) : (s.discard r).resp = s.resp := rfl
@[simp] theorem State.discard_rxq (r : Discard) : (s.discard r).rxq = s.rxq := rfl
@[simp] theorem State.discard_txq (r : Discard) : (s.discard r).txq = s.txq := rfl
@[simp] theorem State.discard_txFlushed (r : Discard) : (s.discard r).txFlushed = s.txFlushed := rfl
@[simp] theorem State.discard_hostq (r : Discard) : (s.discard r).hostq = s.hostq := rfl
@[simp] theorem State.discard_hostParams (r : Discard) : (s.discard r).hostParams = s.hostParams := rfl
@[simp] theorem State.discard_turns (r : Discard) : (s.discard r).turns = s.turns := rfl
@[simp] theorem State.discard_trace (r : Discard) : (s.discard r).trace = s.trace ++ [.discard r] := rfl
@[simp] theorem State.discard_resets (r : Discard) : (s.discard r).resets = s.resets := rfl

@[simp] theorem State.violate_ps (r : Violation) : (s.violate r).ps = s.ps := rfl
@[simp] theorem State.violate_csum (r : Violation) : (s.violate r).csum = s.csum := rfl
@[simp] theorem State.violate_candAddr (r : Violation) : (s.violate r).candAddr = s.candAddr := rfl
@[simp] theorem State.violate_cmdReg (r : Violation) : (s.violate r).cmdReg = s.cmdReg := rfl
@[simp] theorem State.violate_sizeReg (r : Violation) : (s.violate r).sizeReg = s.sizeReg := rfl
@[simp] theorem State.violate_dcount (r : Violation) : (s.violate r).dcount = s.dcount := rfl
@[simp] theorem State.violate_rxbuf (r : Violation) : (s.violate r).rxbuf = s.rxbuf := rfl
@[simp] theorem State.violate_rdCur (r : Violation) : (s.violate r).rdCur = s.rdCur := rfl
@[simp] theorem State.violate_txbuf (r : Violation) : (s.violate r).txbuf = s.txbuf := rfl
@[simp] theorem State.violate_txCur (r : Violation) : (s.violate r).txCur = s.txCur := rfl
@[simp] theorem State.violate_accCmd (r : Violation) : (s.violate r).accCmd = s.accCmd := rfl
@[simp] theorem State.violate_accSize (r : Violation) : (s.violate r).accSize = s.accSize := rfl
@[simp] theorem State.violate_txCsum (r : Violation) : (s.violate r).txCsum = s.txCsum := rfl
@[simp] theorem State.violate_mode (r : Violation) : (s.violate r).mode = s.mode := rfl
@[simp] theorem State.violate_txEn (r : Violation) : (s.violate r).txEn = s.txEn := rfl
@[simp] theorem State.violate_rxwin (r : Violation) : (s.violate r).rxwin = s.rxwin := rfl
@[simp] theorem State.violate_txwin (r : Violation) : (s.violate r).txwin = s.txwin := rfl
@[simp] theorem State.violate_cvFault (r : Violation) : (s.violate r).cvFault = some r := rfl
@[simp] theorem State.violate_refused (r : Violation) : (s.violate r).refused = s.refused := rfl
@[simp] theorem State.violate_cfg (r : Violation) : (s.violate r).cfg = s.cfg := rfl
@[simp] theorem State.violate_rst (r : Violation) : (s.violate r).rst = s.rst := rfl
@[simp] theorem State.violate_req (r : Violation) : (s.violate r).req = s.req := rfl
@[simp] theorem State.violate_resp (r : Violation) : (s.violate r).resp = s.resp := rfl
@[simp] theorem State.violate_rxq (r : Violation) : (s.violate r).rxq = s.rxq := rfl
@[simp] theorem State.violate_txq (r : Violation) : (s.violate r).txq = s.txq := rfl
@[simp] theorem State.violate_txFlushed (r : Violation) : (s.violate r).txFlushed = s.txFlushed := rfl
@[simp] theorem State.violate_hostq (r : Violation) : (s.violate r).hostq = s.hostq := rfl
@[simp] theorem State.violate_hostParams (r : Violation) : (s.violate r).hostParams = s.hostParams := rfl
@[simp] theorem State.violate_turns (r : Violation) : (s.violate r).turns = s.turns := rfl
@[simp] theorem State.violate_trace (r : Violation) : (s.violate r).trace = s.trace ++ [.fault r] := rfl
@[simp] theorem State.violate_resets (r : Violation) : (s.violate r).resets = s.resets := rfl

@[simp] theorem State.refuse_ps (r : RefuseReason) : (s.refuse r).ps = s.ps := rfl
@[simp] theorem State.refuse_csum (r : RefuseReason) : (s.refuse r).csum = s.csum := rfl
@[simp] theorem State.refuse_candAddr (r : RefuseReason) : (s.refuse r).candAddr = s.candAddr := rfl
@[simp] theorem State.refuse_cmdReg (r : RefuseReason) : (s.refuse r).cmdReg = s.cmdReg := rfl
@[simp] theorem State.refuse_sizeReg (r : RefuseReason) : (s.refuse r).sizeReg = s.sizeReg := rfl
@[simp] theorem State.refuse_dcount (r : RefuseReason) : (s.refuse r).dcount = s.dcount := rfl
@[simp] theorem State.refuse_rxbuf (r : RefuseReason) : (s.refuse r).rxbuf = s.rxbuf := rfl
@[simp] theorem State.refuse_rdCur (r : RefuseReason) : (s.refuse r).rdCur = s.rdCur := rfl
@[simp] theorem State.refuse_txbuf (r : RefuseReason) : (s.refuse r).txbuf = s.txbuf := rfl
@[simp] theorem State.refuse_txCur (r : RefuseReason) : (s.refuse r).txCur = s.txCur := rfl
@[simp] theorem State.refuse_accCmd (r : RefuseReason) : (s.refuse r).accCmd = s.accCmd := rfl
@[simp] theorem State.refuse_accSize (r : RefuseReason) : (s.refuse r).accSize = s.accSize := rfl
@[simp] theorem State.refuse_txCsum (r : RefuseReason) : (s.refuse r).txCsum = s.txCsum := rfl
@[simp] theorem State.refuse_mode (r : RefuseReason) : (s.refuse r).mode = s.mode := rfl
@[simp] theorem State.refuse_txEn (r : RefuseReason) : (s.refuse r).txEn = s.txEn := rfl
@[simp] theorem State.refuse_rxwin (r : RefuseReason) : (s.refuse r).rxwin = s.rxwin := rfl
@[simp] theorem State.refuse_txwin (r : RefuseReason) : (s.refuse r).txwin = s.txwin := rfl
@[simp] theorem State.refuse_cvFault (r : RefuseReason) : (s.refuse r).cvFault = s.cvFault := rfl
@[simp] theorem State.refuse_refused (r : RefuseReason) : (s.refuse r).refused = some r := rfl
@[simp] theorem State.refuse_cfg (r : RefuseReason) : (s.refuse r).cfg = s.cfg := rfl
@[simp] theorem State.refuse_rst (r : RefuseReason) : (s.refuse r).rst = s.rst := rfl
@[simp] theorem State.refuse_req (r : RefuseReason) : (s.refuse r).req = s.req := rfl
@[simp] theorem State.refuse_resp (r : RefuseReason) : (s.refuse r).resp = s.resp := rfl
@[simp] theorem State.refuse_rxq (r : RefuseReason) : (s.refuse r).rxq = s.rxq := rfl
@[simp] theorem State.refuse_txq (r : RefuseReason) : (s.refuse r).txq = s.txq := rfl
@[simp] theorem State.refuse_txFlushed (r : RefuseReason) : (s.refuse r).txFlushed = s.txFlushed := rfl
@[simp] theorem State.refuse_hostq (r : RefuseReason) : (s.refuse r).hostq = s.hostq := rfl
@[simp] theorem State.refuse_hostParams (r : RefuseReason) : (s.refuse r).hostParams = s.hostParams := rfl
@[simp] theorem State.refuse_turns (r : RefuseReason) : (s.refuse r).turns = s.turns := rfl
@[simp] theorem State.refuse_trace (r : RefuseReason) : (s.refuse r).trace = s.trace := rfl
@[simp] theorem State.refuse_resets (r : RefuseReason) : (s.refuse r).resets = s.resets := rfl

@[simp] theorem State.present_ps (r : Request) : (s.present r).ps = s.ps := rfl
@[simp] theorem State.present_csum (r : Request) : (s.present r).csum = s.csum := rfl
@[simp] theorem State.present_candAddr (r : Request) : (s.present r).candAddr = s.candAddr := rfl
@[simp] theorem State.present_cmdReg (r : Request) : (s.present r).cmdReg = s.cmdReg := rfl
@[simp] theorem State.present_sizeReg (r : Request) : (s.present r).sizeReg = s.sizeReg := rfl
@[simp] theorem State.present_dcount (r : Request) : (s.present r).dcount = s.dcount := rfl
@[simp] theorem State.present_rxbuf (r : Request) : (s.present r).rxbuf = s.rxbuf := rfl
@[simp] theorem State.present_rdCur (r : Request) : (s.present r).rdCur = s.rdCur := rfl
@[simp] theorem State.present_txbuf (r : Request) : (s.present r).txbuf = s.txbuf := rfl
@[simp] theorem State.present_txCur (r : Request) : (s.present r).txCur = s.txCur := rfl
@[simp] theorem State.present_accCmd (r : Request) : (s.present r).accCmd = s.accCmd := rfl
@[simp] theorem State.present_accSize (r : Request) : (s.present r).accSize = s.accSize := rfl
@[simp] theorem State.present_txCsum (r : Request) : (s.present r).txCsum = s.txCsum := rfl
@[simp] theorem State.present_mode (r : Request) : (s.present r).mode = s.mode := rfl
@[simp] theorem State.present_txEn (r : Request) : (s.present r).txEn = s.txEn := rfl
@[simp] theorem State.present_rxwin (r : Request) : (s.present r).rxwin = s.rxwin := rfl
@[simp] theorem State.present_txwin (r : Request) : (s.present r).txwin = s.txwin := rfl
@[simp] theorem State.present_cvFault (r : Request) : (s.present r).cvFault = s.cvFault := rfl
@[simp] theorem State.present_refused (r : Request) : (s.present r).refused = s.refused := rfl
@[simp] theorem State.present_cfg (r : Request) : (s.present r).cfg = s.cfg := rfl
@[simp] theorem State.present_rst (r : Request) : (s.present r).rst = s.rst := rfl
@[simp] theorem State.present_req (r : Request) : (s.present r).req = some r := rfl
@[simp] theorem State.present_resp (r : Request) : (s.present r).resp = none := rfl
@[simp] theorem State.present_rxq (r : Request) : (s.present r).rxq = s.rxq := rfl
@[simp] theorem State.present_txq (r : Request) : (s.present r).txq = s.txq := rfl
@[simp] theorem State.present_txFlushed (r : Request) : (s.present r).txFlushed = s.txFlushed := rfl
@[simp] theorem State.present_hostq (r : Request) : (s.present r).hostq = s.hostq := rfl
@[simp] theorem State.present_hostParams (r : Request) : (s.present r).hostParams = s.hostParams := rfl
@[simp] theorem State.present_turns (r : Request) : (s.present r).turns = s.turns := rfl
@[simp] theorem State.present_trace (r : Request) : (s.present r).trace = s.trace := rfl
@[simp] theorem State.present_resets (r : Request) : (s.present r).resets = s.resets := rfl

@[simp] theorem State.storeData_ps (b : Byte) : (s.storeData b).ps = s.ps := rfl
@[simp] theorem State.storeData_csum (b : Byte) : (s.storeData b).csum = s.csum + b := rfl
@[simp] theorem State.storeData_candAddr (b : Byte) : (s.storeData b).candAddr = s.candAddr := rfl
@[simp] theorem State.storeData_cmdReg (b : Byte) : (s.storeData b).cmdReg = s.cmdReg := rfl
@[simp] theorem State.storeData_sizeReg (b : Byte) : (s.storeData b).sizeReg = s.sizeReg := rfl
@[simp] theorem State.storeData_dcount (b : Byte) : (s.storeData b).dcount = s.dcount + 1#4 := rfl
@[simp] theorem State.storeData_rxbuf (b : Byte) : (s.storeData b).rxbuf = s.rxbuf.write s.dcount.toNat b := rfl
@[simp] theorem State.storeData_rdCur (b : Byte) : (s.storeData b).rdCur = s.rdCur := rfl
@[simp] theorem State.storeData_txbuf (b : Byte) : (s.storeData b).txbuf = s.txbuf := rfl
@[simp] theorem State.storeData_txCur (b : Byte) : (s.storeData b).txCur = s.txCur := rfl
@[simp] theorem State.storeData_accCmd (b : Byte) : (s.storeData b).accCmd = s.accCmd := rfl
@[simp] theorem State.storeData_accSize (b : Byte) : (s.storeData b).accSize = s.accSize := rfl
@[simp] theorem State.storeData_txCsum (b : Byte) : (s.storeData b).txCsum = s.txCsum := rfl
@[simp] theorem State.storeData_mode (b : Byte) : (s.storeData b).mode = s.mode := rfl
@[simp] theorem State.storeData_txEn (b : Byte) : (s.storeData b).txEn = s.txEn := rfl
@[simp] theorem State.storeData_rxwin (b : Byte) : (s.storeData b).rxwin = s.rxwin := rfl
@[simp] theorem State.storeData_txwin (b : Byte) : (s.storeData b).txwin = s.txwin := rfl
@[simp] theorem State.storeData_cvFault (b : Byte) : (s.storeData b).cvFault = s.cvFault := rfl
@[simp] theorem State.storeData_refused (b : Byte) : (s.storeData b).refused = s.refused := rfl
@[simp] theorem State.storeData_cfg (b : Byte) : (s.storeData b).cfg = s.cfg := rfl
@[simp] theorem State.storeData_rst (b : Byte) : (s.storeData b).rst = s.rst := rfl
@[simp] theorem State.storeData_req (b : Byte) : (s.storeData b).req = s.req := rfl
@[simp] theorem State.storeData_resp (b : Byte) : (s.storeData b).resp = s.resp := rfl
@[simp] theorem State.storeData_rxq (b : Byte) : (s.storeData b).rxq = s.rxq := rfl
@[simp] theorem State.storeData_txq (b : Byte) : (s.storeData b).txq = s.txq := rfl
@[simp] theorem State.storeData_txFlushed (b : Byte) : (s.storeData b).txFlushed = s.txFlushed := rfl
@[simp] theorem State.storeData_hostq (b : Byte) : (s.storeData b).hostq = s.hostq := rfl
@[simp] theorem State.storeData_hostParams (b : Byte) : (s.storeData b).hostParams = s.hostParams := rfl
@[simp] theorem State.storeData_turns (b : Byte) : (s.storeData b).turns = s.turns := rfl
@[simp] theorem State.storeData_trace (b : Byte) : (s.storeData b).trace = s.trace := rfl
@[simp] theorem State.storeData_resets (b : Byte) : (s.storeData b).resets = s.resets := rfl

@[simp] theorem State.accept_ps : (s.accept).ps = psWFH := rfl
@[simp] theorem State.accept_csum : (s.accept).csum = s.csum := rfl
@[simp] theorem State.accept_candAddr : (s.accept).candAddr = s.candAddr := rfl
@[simp] theorem State.accept_cmdReg : (s.accept).cmdReg = s.cmdReg := rfl
@[simp] theorem State.accept_sizeReg : (s.accept).sizeReg = s.sizeReg := rfl
@[simp] theorem State.accept_dcount : (s.accept).dcount = s.dcount := rfl
@[simp] theorem State.accept_rxbuf : (s.accept).rxbuf = s.rxbuf := rfl
@[simp] theorem State.accept_rdCur : (s.accept).rdCur = 0#4 := rfl
@[simp] theorem State.accept_txbuf : (s.accept).txbuf = s.txbuf := rfl
@[simp] theorem State.accept_txCur : (s.accept).txCur = 0#4 := rfl
@[simp] theorem State.accept_accCmd : (s.accept).accCmd = s.cmdReg := rfl
@[simp] theorem State.accept_accSize : (s.accept).accSize = s.sizeReg := rfl
@[simp] theorem State.accept_txCsum : (s.accept).txCsum = s.txCsum := rfl
@[simp] theorem State.accept_mode : (s.accept).mode = .idle := rfl
@[simp] theorem State.accept_txEn : (s.accept).txEn = s.txEn := rfl
@[simp] theorem State.accept_rxwin : (s.accept).rxwin = true := rfl
@[simp] theorem State.accept_txwin : (s.accept).txwin = true := rfl
@[simp] theorem State.accept_cvFault : (s.accept).cvFault = s.cvFault := rfl
@[simp] theorem State.accept_refused : (s.accept).refused = s.refused := rfl
@[simp] theorem State.accept_cfg : (s.accept).cfg = s.cfg := rfl
@[simp] theorem State.accept_rst : (s.accept).rst = s.rst := rfl
@[simp] theorem State.accept_req : (s.accept).req = s.req := rfl
@[simp] theorem State.accept_resp : (s.accept).resp = s.resp := rfl
@[simp] theorem State.accept_rxq : (s.accept).rxq = s.rxq := rfl
@[simp] theorem State.accept_txq : (s.accept).txq = s.txq := rfl
@[simp] theorem State.accept_txFlushed : (s.accept).txFlushed = s.txFlushed := rfl
@[simp] theorem State.accept_hostq : (s.accept).hostq = s.hostq := rfl
@[simp] theorem State.accept_hostParams : (s.accept).hostParams = s.hostParams := rfl
@[simp] theorem State.accept_turns : (s.accept).turns = s.turns := rfl
@[simp] theorem State.accept_trace : (s.accept).trace = s.trace ++ [.accept s.cmdReg s.sizeReg] := rfl
@[simp] theorem State.accept_resets : (s.accept).resets = s.resets := rfl

@[simp] theorem State.txWrite_ps (b : Byte) : (s.txWrite b).ps = s.ps := rfl
@[simp] theorem State.txWrite_csum (b : Byte) : (s.txWrite b).csum = s.csum := rfl
@[simp] theorem State.txWrite_candAddr (b : Byte) : (s.txWrite b).candAddr = s.candAddr := rfl
@[simp] theorem State.txWrite_cmdReg (b : Byte) : (s.txWrite b).cmdReg = s.cmdReg := rfl
@[simp] theorem State.txWrite_sizeReg (b : Byte) : (s.txWrite b).sizeReg = s.sizeReg := rfl
@[simp] theorem State.txWrite_dcount (b : Byte) : (s.txWrite b).dcount = s.dcount := rfl
@[simp] theorem State.txWrite_rxbuf (b : Byte) : (s.txWrite b).rxbuf = s.rxbuf := rfl
@[simp] theorem State.txWrite_rdCur (b : Byte) : (s.txWrite b).rdCur = s.rdCur := rfl
@[simp] theorem State.txWrite_txbuf (b : Byte) : (s.txWrite b).txbuf = s.txbuf := rfl
@[simp] theorem State.txWrite_txCur (b : Byte) : (s.txWrite b).txCur = s.txCur := rfl
@[simp] theorem State.txWrite_accCmd (b : Byte) : (s.txWrite b).accCmd = s.accCmd := rfl
@[simp] theorem State.txWrite_accSize (b : Byte) : (s.txWrite b).accSize = s.accSize := rfl
@[simp] theorem State.txWrite_txCsum (b : Byte) : (s.txWrite b).txCsum = s.txCsum := rfl
@[simp] theorem State.txWrite_mode (b : Byte) : (s.txWrite b).mode = s.mode := rfl
@[simp] theorem State.txWrite_txEn (b : Byte) : (s.txWrite b).txEn = s.txEn := rfl
@[simp] theorem State.txWrite_rxwin (b : Byte) : (s.txWrite b).rxwin = s.rxwin := rfl
@[simp] theorem State.txWrite_txwin (b : Byte) : (s.txWrite b).txwin = s.txwin := rfl
@[simp] theorem State.txWrite_cvFault (b : Byte) : (s.txWrite b).cvFault = s.cvFault := rfl
@[simp] theorem State.txWrite_refused (b : Byte) : (s.txWrite b).refused = s.refused := rfl
@[simp] theorem State.txWrite_cfg (b : Byte) : (s.txWrite b).cfg = s.cfg := rfl
@[simp] theorem State.txWrite_rst (b : Byte) : (s.txWrite b).rst = s.rst := rfl
@[simp] theorem State.txWrite_req (b : Byte) : (s.txWrite b).req = s.req := rfl
@[simp] theorem State.txWrite_resp (b : Byte) : (s.txWrite b).resp = s.resp := rfl
@[simp] theorem State.txWrite_rxq (b : Byte) : (s.txWrite b).rxq = s.rxq := rfl
@[simp] theorem State.txWrite_txq (b : Byte) : (s.txWrite b).txq = s.txq ++ [b] := rfl
@[simp] theorem State.txWrite_txFlushed (b : Byte) : (s.txWrite b).txFlushed = false := rfl
@[simp] theorem State.txWrite_hostq (b : Byte) : (s.txWrite b).hostq = s.hostq := rfl
@[simp] theorem State.txWrite_hostParams (b : Byte) : (s.txWrite b).hostParams = s.hostParams := rfl
@[simp] theorem State.txWrite_turns (b : Byte) : (s.txWrite b).turns = s.turns := rfl
@[simp] theorem State.txWrite_trace (b : Byte) : (s.txWrite b).trace = s.trace ++ [.txByte b] := rfl
@[simp] theorem State.txWrite_resets (b : Byte) : (s.txWrite b).resets = s.resets := rfl

@[simp] theorem State.popTurn_ps : (s.popTurn).ps = s.ps := rfl
@[simp] theorem State.popTurn_csum : (s.popTurn).csum = s.csum := rfl
@[simp] theorem State.popTurn_candAddr : (s.popTurn).candAddr = s.candAddr := rfl
@[simp] theorem State.popTurn_cmdReg : (s.popTurn).cmdReg = s.cmdReg := rfl
@[simp] theorem State.popTurn_sizeReg : (s.popTurn).sizeReg = s.sizeReg := rfl
@[simp] theorem State.popTurn_dcount : (s.popTurn).dcount = s.dcount := rfl
@[simp] theorem State.popTurn_rxbuf : (s.popTurn).rxbuf = s.rxbuf := rfl
@[simp] theorem State.popTurn_rdCur : (s.popTurn).rdCur = s.rdCur := rfl
@[simp] theorem State.popTurn_txbuf : (s.popTurn).txbuf = s.txbuf := rfl
@[simp] theorem State.popTurn_txCur : (s.popTurn).txCur = s.txCur := rfl
@[simp] theorem State.popTurn_accCmd : (s.popTurn).accCmd = s.accCmd := rfl
@[simp] theorem State.popTurn_accSize : (s.popTurn).accSize = s.accSize := rfl
@[simp] theorem State.popTurn_txCsum : (s.popTurn).txCsum = s.txCsum := rfl
@[simp] theorem State.popTurn_mode : (s.popTurn).mode = s.mode := rfl
@[simp] theorem State.popTurn_txEn : (s.popTurn).txEn = s.txEn := rfl
@[simp] theorem State.popTurn_rxwin : (s.popTurn).rxwin = s.rxwin := rfl
@[simp] theorem State.popTurn_txwin : (s.popTurn).txwin = s.txwin := rfl
@[simp] theorem State.popTurn_cvFault : (s.popTurn).cvFault = s.cvFault := rfl
@[simp] theorem State.popTurn_refused : (s.popTurn).refused = s.refused := rfl
@[simp] theorem State.popTurn_cfg : (s.popTurn).cfg = s.cfg := rfl
@[simp] theorem State.popTurn_rst : (s.popTurn).rst = s.rst := rfl
@[simp] theorem State.popTurn_req : (s.popTurn).req = s.req := rfl
@[simp] theorem State.popTurn_resp : (s.popTurn).resp = s.resp := rfl
@[simp] theorem State.popTurn_rxq : (s.popTurn).rxq = s.rxq := rfl
@[simp] theorem State.popTurn_txq : (s.popTurn).txq = s.txq := rfl
@[simp] theorem State.popTurn_txFlushed : (s.popTurn).txFlushed = s.txFlushed := rfl
@[simp] theorem State.popTurn_hostq : (s.popTurn).hostq = s.hostq := rfl
@[simp] theorem State.popTurn_hostParams : (s.popTurn).hostParams = s.hostParams := rfl
@[simp] theorem State.popTurn_turns : (s.popTurn).turns = s.turns.tail := rfl
@[simp] theorem State.popTurn_trace : (s.popTurn).trace = s.trace := rfl
@[simp] theorem State.popTurn_resets : (s.popTurn).resets = s.resets := rfl

end Sys2Proof.Machine
end

