-- ==== Sys2Proof/Laws/Ops.lean ====
section
/-! SUPPORT. For each shared operation, once, everything it can do. -/

namespace Sys2Proof.Machine

/-- A guarded request that answers a next state ran in IDLE. -/
theorem whenIdle_next {s t : State} {o : Host.Outcome State Fault Refusal} (h : whenIdle s o = .next t) :
    s.mode = .idle ∧ o = .next t := by
  unfold whenIdle at h
  split at h
  · exact ⟨‹_›, h⟩
  · cases h

theorem whenIdle_of_idle {s : State} (o : Host.Outcome State Fault Refusal) (h : s.mode = .idle) :
    whenIdle s o = o := by simp [whenIdle, h]

/-- A receive row that answers a next state ran in a POLL, in its parser state, its condition true. -/
theorem onRow_next {s t u : State} {ps : BitVec 3} {cond : Bool} (h : onRow s ps cond t = .next u) :
    s.mode = .polling ∧ s.ps = ps ∧ cond = true ∧ u = t := by
  unfold onRow at h
  split at h
  · rename_i hg
    exact ⟨hg.1, hg.2.1, hg.2.2, by injection h with h; exact h.symm⟩
  · cases h

theorem onRow_of_selected {s t : State} {ps : BitVec 3} {cond : Bool} (hm : s.mode = .polling) (hp : s.ps = ps)
    (hc : cond = true) : onRow s ps cond t = .next t := by simp [onRow, hm, hp, hc]

/-- Everything a pop can do when it answers a next state: a recorded violation, or the value read with the
cursor advanced. -/
theorem pop_next {op : BitVec 4} {w : Width} {signed : Bool} {s t : State} (h : pop op w signed s = .next t) :
    s.mode = .idle ∧
      ((∃ r, popCheck s w.bytes = some r ∧ t = s.violate r) ∨
       (popCheck s w.bytes = none ∧ ∃ v, s.popValue w signed = some v ∧
          t = { s with rdCur := s.rdCur + BitVec.ofNat 4 w.bytes }.respond op (.value v))) := by
  obtain ⟨hm, h⟩ := whenIdle_next h
  refine ⟨hm, ?_⟩
  split at h
  · rename_i r hr
    exact .inl ⟨r, hr, by injection h with h; exact h.symm⟩
  · rename_i hr
    split at h
    · cases h
    · rename_i v hv
      exact .inr ⟨hr, v, hv, by injection h with h; exact h.symm⟩

/-- Everything a push can do when it answers a next state. -/
theorem push_next {op : BitVec 4} {w : Width} {x : Word32} {s t : State} (h : push op w x s = .next t) :
    s.mode = .idle ∧
      ((∃ r, pushCheck s w.bytes = some r ∧ t = s.violate r) ∨
       (pushCheck s w.bytes = none ∧
          t = { s with
                txbuf := s.txbuf.writeBytes s.txCur.toNat (beBytes w x)
                txCur := s.txCur + BitVec.ofNat 4 w.bytes }.respond op .done)) := by
  obtain ⟨hm, h⟩ := whenIdle_next h
  refine ⟨hm, ?_⟩
  split at h
  · rename_i r hr
    exact .inl ⟨r, hr, by injection h with h; exact h.symm⟩
  · rename_i hr
    exact .inr ⟨hr, by injection h with h; exact h.symm⟩

/-- A passed pop check, in numbers (R137). -/
theorem popCheck_none {s : State} {w : Nat} :
    popCheck s w = none ↔ s.rxwin = true ∧ s.rdCur.toNat + w ≤ s.accSize.toNat := by
  unfold popCheck
  split_ifs with h1 h2
  · simp [h1]
  · simp only [false_iff]; omega
  · simp only [true_iff]; exact ⟨by simpa using h1, by omega⟩

/-- A passed push check, in numbers (R147). -/
theorem pushCheck_none {s : State} {w : Nat} :
    pushCheck s w = none ↔ s.txwin = true ∧ s.txCur.toNat + w ≤ 15 := by
  unfold pushCheck
  rw [maxPayload_eq]
  split_ifs with h1 h2
  · simp [h1]
  · simp only [false_iff]; omega
  · simp only [true_iff]; exact ⟨by simpa using h1, by omega⟩

@[simp] theorem beBytes_length (w : Width) (x : Word32) : (beBytes w x).length = w.bytes := by
  cases w <;> rfl

/-- A list of the right length has a value. -/
theorem beValue_isSome (w : Width) (signed : Bool) (l : List Byte) (h : l.length = w.bytes) :
    (beValue w signed l).isSome = true := by
  match w, l, h with
  | .w1, [_], _ => rfl
  | .w2, [_, _], _ => rfl
  | .w4, [_, _, _, _], _ => rfl

/-- Handing a frame over, as one update. -/
theorem State.txWriteAll_eq (l : List Byte) : ∀ s : State, l ≠ [] →
    s.txWriteAll l =
      { s with txq := s.txq ++ l, txFlushed := false, trace := s.trace ++ l.map Event.txByte } := by
  induction l with
  | nil => intro s h; exact absurd rfl h
  | cons b l ih =>
    intro s _
    cases l with
    | nil => rfl
    | cons c l =>
      rw [State.txWriteAll, ih _ (by simp)]
      simp [State.txWrite]

/-- The reply frame is never empty. -/
theorem State.replyFrame_ne_nil {s : State} {ck : Byte} {f : List Byte} (h : s.replyFrame = some (ck, f)) :
    f ≠ [] := by
  unfold State.replyFrame at h
  split_ifs at h
  · simp only [Option.some.injEq, Prod.mk.injEq] at h
    rw [← h.2]; unfold noDataFrame; split_ifs <;> simp
  · split at h
    · cases h
    · simp only [Option.some.injEq, Prod.mk.injEq] at h
      rw [← h.2]; simp [dataFrame]

end Sys2Proof.Machine
end

