-- ==== Sys2Proof/Laws/Decode.lean ====
section
/-! SUPPORT. The fields of a receive word and of the wire bytes, and the decoder on a receive word. -/

namespace Sys2Proof

theorem rxWord_getLsbD (p : BitVec 3) (b : Byte) (i : Nat) :
    (rxWord p b).getLsbD i = if i < 8 then b.getLsbD i else p.getLsbD (i - 8) := by
  unfold rxWord
  exact (BitVec.getLsbD_append (x := p) (y := b)).trans (by cases h : decide (i < 8) <;> simp_all)

theorem rxWord_ps (p : BitVec 3) (b : Byte) : (rxWord p b).extractLsb' 8 3 = p := by
  apply BitVec.eq_of_getLsbD_eq
  intro i hi
  simp only [BitVec.getLsbD_extractLsb', rxWord_getLsbD]
  simp [hi]

theorem rxWord_byte (p : BitVec 3) (b : Byte) : (rxWord p b).extractLsb' 0 8 = b := by
  apply BitVec.eq_of_getLsbD_eq
  intro i hi
  simp only [BitVec.getLsbD_extractLsb', rxWord_getLsbD]
  simp [hi]

/-- Every receive word is the word of a parser state and a byte. -/
theorem rxWord_fields (w : BitVec 11) : rxWord (w.extractLsb' 8 3) (w.extractLsb' 0 8) = w := by
  apply BitVec.eq_of_getLsbD_eq
  intro i hi
  simp only [BitVec.getLsbD_extractLsb', rxWord_getLsbD]
  split_ifs with h
  · simp [h]
  · have h1 : i - 8 < 3 := by omega
    have h2 : 8 + (i - 8) = i := by omega
    simp [h1, h2]

/-- The decoder on the receive word of a parser state and a byte is the table of R100. -/
theorem decode_rxWord (c : RxCtx) (p : BitVec 3) (b : Byte) :
    decode c (.receive (rxWord p b)) = decodeReceive c p b := by
  simp only [decode, rxWord_ps, rxWord_byte]

theorem addrTagged_encAddr : ∀ a : Addr, addrTagged (encAddr a) = true := by decide
theorem addrLow_encAddr : ∀ a : Addr, addrLow (encAddr a) = a := by decide
theorem encAddr_addrLow : ∀ b : Byte, addrTagged b = true → encAddr (addrLow b) = b := by decide
theorem sizeValid_encSize : ∀ n : Nibble, sizeValid (encSize n) = true := by decide
theorem sizeLow_encSize : ∀ n : Nibble, sizeLow (encSize n) = n := by decide
theorem encSize_sizeLow : ∀ b : Byte, sizeValid b = true → encSize (sizeLow b) = b := by decide

end Sys2Proof

namespace Sys2Proof

/-- Everything the transition table can choose, with what it read (R100). -/
theorem decodeReceive_ok {c : RxCtx} {ps : BitVec 3} {b : Byte} {i : Instr}
    (h : decodeReceive c ps b = .ok i) :
    (ps = psWFH ∧ b = hdrCmd ∧ i = .rxHdr) ∨
    (ps = psWFH ∧ b ≠ hdrCmd ∧ i = .rxSkip b) ∨
    (ps = psWFA ∧ addrTagged b = true ∧ i = .rxAddr (addrLow b)) ∨
    (ps = psWFA ∧ addrTagged b = false ∧ i = .rxAddrBad b) ∨
    (ps = psWFC ∧ i = .rxCmd b) ∨
    (ps = psWFS ∧ sizeValid b = true ∧ sizeLow b = 0#4 ∧ i = .rxSize0) ∨
    (ps = psWFS ∧ sizeValid b = true ∧ sizeLow b ≠ 0#4 ∧ i = .rxSizeN (sizeLow b)) ∨
    (ps = psWFS ∧ sizeValid b = false ∧ i = .rxSizeBad b) ∨
    (ps = psWFD ∧ c.dcount.toNat + 1 < c.sizeReg.toNat ∧ i = .rxData b) ∨
    (ps = psWFD ∧ c.dcount.toNat + 1 = c.sizeReg.toNat ∧ i = .rxDataLast b) ∨
    (ps = psWFK ∧ b = c.csum ∧ c.myAddr = some c.candAddr ∧ i = .rxCsumOk b) ∨
    (ps = psWFK ∧ b ≠ c.csum ∧ i = .rxCsumBad b) ∨
    (ps = psWFK ∧ b = c.csum ∧ c.myAddr.isSome = true ∧ c.myAddr ≠ some c.candAddr ∧ i = .rxAddrMiss b) := by
  unfold decodeReceive at h
  split at h
  · split at h <;> injection h with h <;> simp_all
  split at h
  · split at h <;> injection h with h <;> simp_all
  split at h
  · injection h with h; simp_all
  split at h
  · split at h
    · split at h <;> injection h with h <;> simp_all
    · injection h with h; simp_all
  split at h
  · split at h
    · injection h with h; simp_all
    · split at h
      · injection h with h; simp_all
      · cases h
  split at h
  · split at h
    · split at h
      · cases h
      · split at h
        · injection h with h; simp_all
        · rename_i hc
          injection h with h
          have hc' := Ne.symm hc
          simp_all
    · injection h with h; simp_all
  · cases h

end Sys2Proof
end

