-- ==== Sys2Proof/Laws/PerInstr.lean ====
section
/-! SUPPORT. Facts of every instruction as syntax: its word carries the pattern of its row of
spec/opcode_table.json. -/

namespace Sys2Proof.Laws.TableRow

/-- The `mask` and `match` of an instruction's row of spec/opcode_table.json, copied from the table. -/
def row : Instr → Nat × Nat
  | .poll => (0xF, 0x1)
  | .popU8 => (0xF, 0x2)
  | .popS8 => (0xF, 0x3)
  | .popU16 => (0xF, 0x4)
  | .popS16 => (0xF, 0x5)
  | .popU32 => (0xF, 0x6)
  | .popS32 => (0xF, 0x7)
  | .ack => (0xF, 0x8)
  | .pushU8 _ => (0xF, 0xA)
  | .pushS8 _ => (0xF, 0xB)
  | .pushU16 _ => (0xF, 0xC)
  | .pushS16 _ => (0xF, 0xD)
  | .pushU32 _ => (0xF, 0xE)
  | .pushS32 _ => (0xF, 0xF)
  | .rxHdr => (0x7FF, 0x0AA)
  | .rxSkip _ => (0x700, 0x000)
  | .rxAddr _ => (0x7C0, 0x180)
  | .rxAddrBad _ => (0x700, 0x100)
  | .rxCmd _ => (0x700, 0x200)
  | .rxSize0 => (0x7FF, 0x3F0)
  | .rxSizeN _ => (0x700, 0x300)
  | .rxSizeBad _ => (0x700, 0x300)
  | .rxData _ => (0x700, 0x400)
  | .rxDataLast _ => (0x700, 0x400)
  | .rxCsumOk _ => (0x700, 0x500)
  | .rxCsumBad _ => (0x700, 0x500)
  | .rxAddrMiss _ => (0x700, 0x500)

/-- The bits of a word that the table numbers. -/
def bits : CodeWord → Nat
  | .request op _ => op.toNat
  | .receive rw => rw.toNat

/-- The word of an instruction matches its row. -/
def Statement (i : Instr) : Prop := bits (encode i) &&& (row i).1 = (row i).2

theorem receive_byte (p : BitVec 3) (b : Byte) (q : Nat) (h : p.toNat * 256 = q) :
    (rxWord p b).toNat &&& 0x700 = q := by
  subst h; revert p b; unfold rxWord; decide

theorem receive_addr : ∀ a : Addr, (rxWord psWFA (encAddr a)).toNat &&& 0x7C0 = 0x180 := by decide

theorem poll : Statement .poll := by unfold Statement; decide
theorem popU8 : Statement .popU8 := by unfold Statement; decide
theorem popS8 : Statement .popS8 := by unfold Statement; decide
theorem popU16 : Statement .popU16 := by unfold Statement; decide
theorem popS16 : Statement .popS16 := by unfold Statement; decide
theorem popU32 : Statement .popU32 := by unfold Statement; decide
theorem popS32 : Statement .popS32 := by unfold Statement; decide
theorem ack : Statement .ack := by unfold Statement; decide
theorem pushU8 (x : Word32) : Statement (.pushU8 x) := by simp [Statement, row, bits, encode]
theorem pushS8 (x : Word32) : Statement (.pushS8 x) := by simp [Statement, row, bits, encode]
theorem pushU16 (x : Word32) : Statement (.pushU16 x) := by simp [Statement, row, bits, encode]
theorem pushS16 (x : Word32) : Statement (.pushS16 x) := by simp [Statement, row, bits, encode]
theorem pushU32 (x : Word32) : Statement (.pushU32 x) := by simp [Statement, row, bits, encode]
theorem pushS32 (x : Word32) : Statement (.pushS32 x) := by simp [Statement, row, bits, encode]
theorem rxHdr : Statement .rxHdr := by unfold Statement; decide
theorem rxSkip (b : Byte) : Statement (.rxSkip b) := receive_byte _ _ _ rfl
theorem rxAddr (a : Addr) : Statement (.rxAddr a) := receive_addr a
theorem rxAddrBad (b : Byte) : Statement (.rxAddrBad b) := receive_byte _ _ _ rfl
theorem rxCmd (b : Byte) : Statement (.rxCmd b) := receive_byte _ _ _ rfl
theorem rxSize0 : Statement .rxSize0 := by unfold Statement; decide
theorem rxSizeN (n : Nibble) : Statement (.rxSizeN n) := receive_byte _ _ _ rfl
theorem rxSizeBad (b : Byte) : Statement (.rxSizeBad b) := receive_byte _ _ _ rfl
theorem rxData (b : Byte) : Statement (.rxData b) := receive_byte _ _ _ rfl
theorem rxDataLast (b : Byte) : Statement (.rxDataLast b) := receive_byte _ _ _ rfl
theorem rxCsumOk (b : Byte) : Statement (.rxCsumOk b) := receive_byte _ _ _ rfl
theorem rxCsumBad (b : Byte) : Statement (.rxCsumBad b) := receive_byte _ _ _ rfl
theorem rxAddrMiss (b : Byte) : Statement (.rxAddrMiss b) := receive_byte _ _ _ rfl

end Sys2Proof.Laws.TableRow
end

