-- ==== Sys2Proof/Laws/Step.lean ====
section
/-! SUPPORT. What a step can be: the turn taken, the engine's step, and the request a code decodes to. -/

namespace Sys2Proof

/-- A request code that decodes gives an instruction whose word has that code (R83). -/
theorem decodeRequest_ok {op : BitVec 4} {x : Word32} {i : Instr} (h : decodeRequest op x = .ok i) :
    ∃ y, encode i = .request op y := by
  have codes : ∀ o : BitVec 4, o = 0 ∨ o = 1 ∨ o = 2 ∨ o = 3 ∨ o = 4 ∨ o = 5 ∨ o = 6 ∨ o = 7 ∨ o = 8 ∨
      o = 9 ∨ o = 10 ∨ o = 11 ∨ o = 12 ∨ o = 13 ∨ o = 14 ∨ o = 15 := by decide
  rcases codes op with rfl | rfl | rfl | rfl | rfl | rfl | rfl | rfl | rfl | rfl | rfl | rfl | rfl | rfl |
    rfl | rfl <;>
    (simp [decodeRequest, opPoll, opPopU8, opPopS8, opPopU16, opPopS16, opPopU32, opPopS32, opAck, opPushU8,
        opPushS8, opPushU16, opPushS16, opPushU32, opPushS32] at h
     try (subst h; exact ⟨_, rfl⟩))

end Sys2Proof

namespace Sys2Proof.Machine

/-- A turn that answers a next state is a reset turn, or a move of its agent in a run that is not over. -/
theorem takeTurn_next {n : Turn} {s t : State} (h : takeTurn n s = .next t) :
    (∃ level, n = .rst level ∧ t = rstTurn level s) ∨
    ((∀ level, n ≠ .rst level) ∧ s.clean ∧ agentMove n s = .next t) := by
  cases n with
  | rst level => simp only [takeTurn] at h; injection h with h; exact .inl ⟨level, rfl, h.symm⟩
  | _ =>
    right
    simp only [takeTurn] at h
    cases h1 : s.cvFault <;> cases h2 : s.refused <;> simp_all [State.clean]

/-- In a run that is not over, a turn other than reset is its agent's move. -/
theorem takeTurn_of_clean {n : Turn} {s : State} (hn : ∀ level, n ≠ .rst level) (hc : s.clean) :
    takeTurn n s = agentMove n s := by
  obtain ⟨h1, h2⟩ := hc
  cases n with
  | rst level => exact absurd rfl (hn level)
  | _ => simp [takeTurn, h1, h2]

/-- The step of an engine turn. -/
theorem step_engine {s : State} (hn : s.nextTurn = .engine) (hc : s.clean) :
    step s = engineStep { s with turns := s.turns.tail } := by
  unfold step
  rw [hn]
  exact takeTurn_of_clean (by intro l; exact Turn.noConfusion) hc

/-- The step of a turn at the head of the schedule. -/
theorem step_of_turns {s : State} {n : Turn} {ts : List Turn} (h : s.turns = n :: ts) :
    step s = takeTurn n { s with turns := ts } := by
  unfold step State.nextTurn State.popTurn
  rw [h]
  rfl

/-! The engine's step, one lemma per mode. -/

theorem engineStep_held {s : State} (hr : s.rst = true) : engineStep s = .next s := by simp [engineStep, hr]

theorem engineStep_idle {s : State} (hr : s.rst = false) (hm : s.mode = .idle) : engineStep s = idleStep s := by
  simp [engineStep, hr, hm]

theorem engineStep_polling {s : State} (hr : s.rst = false) (hm : s.mode = .polling) :
    engineStep s = pollStep s := by simp [engineStep, hr, hm]

theorem engineStep_ackPre {s : State} (hr : s.rst = false) (hm : s.mode = .ackPre) :
    engineStep s = ackPreStep s := by simp [engineStep, hr, hm]

theorem engineStep_ackSend {s : State} (hr : s.rst = false) (hm : s.mode = .ackSend) :
    engineStep s = ackSendStep s := by simp [engineStep, hr, hm]

theorem engineStep_ackFlush {s : State} (hr : s.rst = false) (hm : s.mode = .ackFlush) :
    engineStep s = ackFlushStep s := by simp [engineStep, hr, hm]

theorem engineStep_ackPost {s : State} (hr : s.rst = false) (hm : s.mode = .ackPost) :
    engineStep s = ackPostStep s := by simp [engineStep, hr, hm]

/-- The byte a step takes is the oldest of RXQ, in a POLL, at an engine turn out of reset. -/
theorem State.takes_some {s : State} {b : Byte} (h : s.takes = some b) :
    s.nextTurn = .engine ∧ s.rst = false ∧ s.mode = .polling ∧ ∃ q, s.rxq = b :: q := by
  unfold State.takes at h
  split_ifs at h with hc
  refine ⟨hc.1, hc.2.1, hc.2.2, ?_⟩
  cases hq : s.rxq with
  | nil => rw [hq] at h; cases h
  | cons c q => rw [hq] at h; injection h with h; subst h; exact ⟨q, rfl⟩

end Sys2Proof.Machine
end

