-- ==== Sys2Proof/Tests/Slice0.lean ====
section
/-! SUPPORT. The tests: ill-formed terms, words written out from spec/30 R83 and spec/95 section 2, single steps
with the values of spec/95, and for every statement with hypotheses a state that meets them. -/

namespace Sys2Proof.Tests

open Sys2Proof Sys2Proof.Machine

/-! ### Helpers -/

/-- The next state of an outcome. -/
def nextOf : Host.Outcome State Fault Refusal → Option State
  | .next t => some t
  | .fault _ => none
  | .refused _ => none

/-- A field of the next state. -/
def after {α : Type} (o : Host.Outcome State Fault Refusal) (f : State → α) : Option α := (nextOf o).map f

/-- Bytes in a buffer from index 0 on. -/
def bytes (l : List Byte) : Memory := Memory.writeBytes [] 0 l

/-- A POLL in progress in parser state `p`, `csum` and RXQ given. -/
def polling (p : BitVec 3) (c : Byte) (q : List Byte) : State :=
  { State.reset with mode := .polling, req := some ⟨0x1#4, 0⟩, ps := p, csum := c, rxq := q }

/-- A POLL in WFD with `k` of `n` bytes received. -/
def inData (c : Byte) (k n : Nibble) (l q : List Byte) : State :=
  { polling 4#3 c q with dcount := k, sizeReg := n, rxbuf := bytes l }

/-- An accepted packet with these data, a request on the port. -/
def accepted (l : List Byte) (op : BitVec 4) (x : Word32) : State :=
  { State.reset with
    rxbuf := bytes l, accSize := BitVec.ofNat 4 l.length, rxwin := true, txwin := true, req := some ⟨op, x⟩ }

/-- A reply with these bytes pushed. -/
def pushed (l : List Byte) (op : BitVec 4) (x : Word32) : State :=
  { accepted [] op x with txbuf := bytes l, txCur := BitVec.ofNat 4 l.length }

/-- An ACK in the given phase, these bytes pushed. -/
def acking (m : Mode) (l : List Byte) : State :=
  { pushed l 0x8#4 0 with mode := m, txEn := true, txwin := false }

/-- The five bytes of the packet PA of spec/95. -/
def pa : List Byte := [0xAA#8, 0xBC#8, 0x02#8, 0xF0#8, 0x58#8]

/-- The seven bytes of the packet PC. -/
def pc : List Byte := [0xAA#8, 0xBC#8, 0x07#8, 0xE1#8, 0x09#8, 0x57#8]

/-- Registers in WFD with one byte to go, in WFK with `csum` 0x58 for this device. -/
def ctxLast : RxCtx :=
  { csum := 0x58#8, dcount := 0#4, sizeReg := 1#4, candAddr := 0x3C#6, myAddr := some 0x3C#6 }

/-- The same for another device, two bytes to go. -/
def ctxOther : RxCtx := { ctxLast with sizeReg := 2#4, myAddr := some 0x3D#6 }

/-! ### Ill-formed terms are refused -/

theorem test_illFormed_skip : (Instr.rxSkip 0xAA#8).wellFormed = false := by decide
theorem test_illFormed_addrBad : (Instr.rxAddrBad 0xBC#8).wellFormed = false := by decide
theorem test_illFormed_sizeN : (Instr.rxSizeN 0#4).wellFormed = false := by decide
theorem test_illFormed_sizeBad : (Instr.rxSizeBad 0xE1#8).wellFormed = false := by decide
theorem test_illFormed_neighbours :
    (Instr.rxSkip 0xAB#8).wellFormed = true ∧ (Instr.rxAddrBad 0xC0#8).wellFormed = true ∧
    (Instr.rxSizeN 15#4).wellFormed = true ∧ (Instr.rxSizeBad 0xE0#8).wellFormed = true := by decide

/-! ### Words written out from R83 and from spec/95 section 2 -/

theorem test_decode_poll (c : RxCtx) : decode c (.request 0b0001#4 0) = .ok .poll := rfl
theorem test_decode_popU8 (c : RxCtx) : decode c (.request 0b0010#4 0) = .ok .popU8 := rfl
theorem test_decode_popS8 (c : RxCtx) : decode c (.request 0b0011#4 0) = .ok .popS8 := rfl
theorem test_decode_popU16 (c : RxCtx) : decode c (.request 0b0100#4 0) = .ok .popU16 := rfl
theorem test_decode_popS16 (c : RxCtx) : decode c (.request 0b0101#4 0) = .ok .popS16 := rfl
theorem test_decode_popU32 (c : RxCtx) : decode c (.request 0b0110#4 0) = .ok .popU32 := rfl
theorem test_decode_popS32 (c : RxCtx) : decode c (.request 0b0111#4 0) = .ok .popS32 := rfl
theorem test_decode_ack (c : RxCtx) : decode c (.request 0b1000#4 0) = .ok .ack := rfl
theorem test_decode_pushU8 (c : RxCtx) : decode c (.request 0b1010#4 1) = .ok (.pushU8 1) := rfl
theorem test_decode_pushS8 (c : RxCtx) :
    decode c (.request 0b1011#4 0xFFFFFF80#32) = .ok (.pushS8 0xFFFFFF80#32) := rfl
theorem test_decode_pushU16 (c : RxCtx) :
    decode c (.request 0b1100#4 0xFFFF#32) = .ok (.pushU16 0xFFFF#32) := rfl
theorem test_decode_pushS16 (c : RxCtx) :
    decode c (.request 0b1101#4 0xFFFFFFFE#32) = .ok (.pushS16 0xFFFFFFFE#32) := rfl
theorem test_decode_pushU32 (c : RxCtx) :
    decode c (.request 0b1110#4 0xDEADBEF0#32) = .ok (.pushU32 0xDEADBEF0#32) := rfl
theorem test_decode_pushS32 (c : RxCtx) :
    decode c (.request 0b1111#4 0x80000000#32) = .ok (.pushS32 0x80000000#32) := rfl
theorem test_decode_reserved0 (c : RxCtx) : decode c (.request 0b0000#4 0) = .error .reservedRequest := rfl
theorem test_decode_reserved9 (c : RxCtx) : decode c (.request 0b1001#4 0) = .error .reservedRequest := rfl

theorem test_decode_rxHdr (c : RxCtx) : decode c (.receive 0b000_10101010#11) = .ok .rxHdr := rfl
theorem test_decode_rxSkip (c : RxCtx) : decode c (.receive 0b000_01110111#11) = .ok (.rxSkip 0x77#8) := rfl
theorem test_decode_rxAddr (c : RxCtx) : decode c (.receive 0b001_10111100#11) = .ok (.rxAddr 0x3C#6) := rfl
theorem test_decode_rxAddrBad (c : RxCtx) :
    decode c (.receive 0b001_00111100#11) = .ok (.rxAddrBad 0x3C#8) ∧
    decode c (.receive 0b001_11111111#11) = .ok (.rxAddrBad 0xFF#8) := ⟨rfl, rfl⟩
theorem test_decode_rxCmd (c : RxCtx) : decode c (.receive 0b010_10101010#11) = .ok (.rxCmd 0xAA#8) := rfl
theorem test_decode_rxSize0 (c : RxCtx) : decode c (.receive 0b011_11110000#11) = .ok .rxSize0 := rfl
theorem test_decode_rxSizeN (c : RxCtx) : decode c (.receive 0b011_00001111#11) = .ok (.rxSizeN 15#4) := rfl
theorem test_decode_rxSizeBad (c : RxCtx) :
    decode c (.receive 0b011_00000000#11) = .ok (.rxSizeBad 0x00#8) ∧
    decode c (.receive 0b011_11111111#11) = .ok (.rxSizeBad 0xFF#8) := ⟨rfl, rfl⟩
theorem test_decode_rxData : decode ctxOther (.receive 0b100_00010010#11) = .ok (.rxData 0x12#8) := rfl
theorem test_decode_rxDataLast : decode ctxLast (.receive 0b100_00110100#11) = .ok (.rxDataLast 0x34#8) := rfl
theorem test_decode_rxCsumOk : decode ctxLast (.receive 0b101_01011000#11) = .ok (.rxCsumOk 0x58#8) := rfl
theorem test_decode_rxCsumBad : decode ctxOther (.receive 0b101_01011001#11) = .ok (.rxCsumBad 0x59#8) := rfl
theorem test_decode_rxAddrMiss : decode ctxOther (.receive 0b101_01011000#11) = .ok (.rxAddrMiss 0x58#8) := rfl
theorem test_decode_ps6 (c : RxCtx) : decode c (.receive 0b110_00000000#11) = .error .badParserState := rfl
theorem test_decode_ps7 (c : RxCtx) : decode c (.receive 0b111_10101010#11) = .error .badParserState := rfl

theorem test_tableWord_ack : decodeTableWord 8 0x8 = some .ack := rfl
theorem test_tableWord_rxAddr : decodeTableWord 16 0x1BC = some (.rxAddr 0x3C#6) := rfl

/-- A placed table word runs in the next step. -/
theorem test_placed_rxAddr : after (step (State.reset.withFetchWord 16 0x1BC)) (fun t => (t.ps, t.candAddr)) =
    some (2#3, 0x3C#6) := by decide
theorem test_placed_rxCsumOk : after (step (State.reset.withFetchWord 16 0x500)) (fun t => (t.mode, t.rxwin)) =
    some (.idle, true) := by decide
theorem test_placed_pushU8 : after (step (State.reset.withFetchWord 8 0xA)) (fun t => t.cvFault) =
    some (some .pushOutsideWindow) := by decide

/-- The size bytes of spec/95 (C1, C2) and the packet PA. -/
theorem test_sizeBytes : encSize 0#4 = 0xF0#8 ∧ encSize 1#4 = 0xE1#8 ∧ encSize 15#4 = 0x0F#8 := by decide
theorem test_packet_pa : packet 0x3C#6 0x02#8 [] = pa := by decide

/-! ### Receive rows: the traces of spec/95 (V-SRC-1, V-RX-02 and the discards) -/

theorem test_rxHdr : after (exec .rxHdr (polling 0#3 0x77#8 [])) (fun t => (t.ps, t.csum)) =
    some (1#3, 0xAA#8) := by decide
theorem test_rxSkip : after (exec (.rxSkip 0x55#8) (polling 0#3 0#8 [])) (fun t => (t.ps, t.trace)) =
    some (0#3, []) := by decide
theorem test_rxAddr : after (exec (.rxAddr 0x3C#6) (polling 1#3 0xAA#8 [])) (fun t => (t.ps, t.csum, t.candAddr)) =
    some (2#3, 0x66#8, 0x3C#6) := by decide
theorem test_rxAddrBad : after (exec (.rxAddrBad 0xC0#8) (polling 1#3 0xAA#8 [])) (fun t => (t.ps, t.trace)) =
    some (0#3, [.discard .addrTag]) := by decide
theorem test_rxCmd : after (exec (.rxCmd 0x02#8) (polling 2#3 0x66#8 [])) (fun t => (t.ps, t.csum, t.cmdReg)) =
    some (3#3, 0x68#8, 0x02#8) := by decide
theorem test_rxSize0_otherState : after (exec .rxSize0 (inData 0x68#8 3#4 7#4 [] [])) (fun t => t.ps) = none := by decide
theorem test_rxSize0_wfs :
    after (exec .rxSize0 { polling 3#3 0x68#8 [] with dcount := 3#4 })
      (fun t => (t.ps, t.csum, t.sizeReg, t.dcount)) = some (5#3, 0x58#8, 0#4, 3#4) := by decide
theorem test_rxSizeN : after (exec (.rxSizeN 2#4) (polling 3#3 0x77#8 [])) (fun t => (t.ps, t.csum, t.sizeReg)) =
    some (4#3, 0x49#8, 2#4) := by decide
theorem test_rxSizeBad :
    after (exec (.rxSizeBad 0x02#8) (polling 3#3 0x10#8 [])) (fun t => (t.ps, t.sizeReg, t.trace)) =
    some (0#3, 2#4, [.discard .sizeNibble]) := by decide
theorem test_rxData :
    after (exec (.rxData 0x12#8) (inData 0x49#8 0#4 2#4 [] [])) (fun t => (t.ps, t.csum, t.dcount, t.rxbuf)) =
    some (4#3, 0x5B#8, 1#4, [(0, 0x12#8)]) := by decide
theorem test_rxDataLast :
    after (exec (.rxDataLast 0x34#8) (inData 0x5B#8 1#4 2#4 [0x12#8] []))
      (fun t => (t.ps, t.csum, t.dcount, t.rxbuf)) =
    some (5#3, 0x8F#8, 2#4, [(0, 0x12#8), (1, 0x34#8)]) := by decide
/-- V-RX-18: the foreign packet's data byte overwrites index 0. -/
theorem test_rxData_overwrites :
    after (exec (.rxDataLast 0x99#8) (inData 0#8 0#4 1#4 [0x11#8, 0x22#8] [])) (fun t => t.rxbuf) =
    some [(0, 0x99#8), (1, 0x22#8)] := by decide
theorem test_rxCsumOk :
    after (exec (.rxCsumOk 0x58#8) { polling 5#3 0x58#8 [] with candAddr := 0x3C#6, cmdReg := 0x02#8 })
      (fun t => (t.ps, t.mode, t.resp, t.rxwin, t.txwin)) =
    some (0#3, .idle, some (.ready 0x02#8 0#4), true, true) := by decide
theorem test_rxCsumBad :
    after (exec (.rxCsumBad 0x59#8) { polling 5#3 0x58#8 [] with candAddr := 0x3D#6 })
      (fun t => (t.ps, t.mode, t.trace)) = some (0#3, .polling, [.discard .checksum]) := by decide
theorem test_rxAddrMiss :
    after (exec (.rxAddrMiss 0x58#8) { polling 5#3 0x58#8 [] with candAddr := 0x3D#6 })
      (fun t => (t.ps, t.mode, t.trace)) = some (0#3, .polling, [.discard .address]) := by decide

/-! ### Host requests: spec/95 sections 3 to 7 -/

theorem test_poll : after (step (accepted [0x05#8] 0x1#4 0)) (fun t => (t.mode, t.rxwin, t.txwin)) =
    some (.polling, false, false) := by decide
/-- V-RX-15. -/
theorem test_poll_empty : after (step (polling 2#3 0x66#8 [])) (fun t => (t.mode, t.resp, t.ps)) =
    some (.idle, some .notReady, 2#3) := by decide

/-- V-POP-01. -/
theorem test_popU8 : after (step (accepted [0x80#8, 0x7F#8] 0x2#4 0)) (fun t => (t.resp, t.rdCur)) =
    some (some (.value 0x80#32), 1#4) := by decide
/-- V-POP-02. -/
theorem test_popS8 : after (step (accepted [0x80#8, 0x7F#8] 0x3#4 0)) (fun t => (t.resp, t.rdCur)) =
    some (some (.value 0xFFFFFF80#32), 1#4) := by decide
/-- V-POP-11, second pop: 16 bits at the odd cursor 1. -/
theorem test_popU16 :
    after (step { accepted [1#8, 2#8, 3#8, 4#8, 5#8, 6#8, 7#8] 0x4#4 0 with rdCur := 1#4 })
      (fun t => (t.resp, t.rdCur)) = some (some (.value 0x0203#32), 3#4) := by decide
/-- V-POP-07, first pop. -/
theorem test_popS16 : after (step (accepted [0x80#8, 0x7F#8] 0x5#4 0)) (fun t => (t.resp, t.rdCur)) =
    some (some (.value 0xFFFF807F#32), 2#4) := by decide
/-- V-POP-10, first pop. -/
theorem test_popU32 :
    after (step (accepted [0x80#8, 0x7F#8, 0xFF#8, 0xFE#8, 0x80#8] 0x6#4 0)) (fun t => (t.resp, t.rdCur)) =
    some (some (.value 0x807FFFFE#32), 4#4) := by decide
/-- V-POP-14. -/
theorem test_popS32 :
    after (step (accepted [0xFF#8, 0xFF#8, 0xFF#8, 0xFF#8] 0x7#4 0)) (fun t => (t.resp, t.rdCur)) =
    some (some (.value 0xFFFFFFFF#32), 4#4) := by decide
/-- V-POP-13: 1 + 2 is past the size 2. -/
theorem test_pop_pastSize :
    after (step { accepted [0x12#8, 0x34#8] 0x4#4 0 with rdCur := 1#4 })
      (fun t => (t.cvFault, t.rdCur, t.trace)) = some (some .popPastSize, 1#4, [.fault .popPastSize]) := by decide
/-- V-POP-22: the window is checked before the size. -/
theorem test_pop_outsideWindow :
    after (step { State.reset with req := some ⟨0x6#4, 0⟩ }) (fun t => (t.cvFault, t.resp, t.req)) =
    some (some .popOutsideWindow, none, some ⟨0x6#4, 0⟩) := by decide

/-- V-PUSH-03: upper bits ignored. -/
theorem test_pushU8 : after (step (pushed [] 0xA#4 0x1234#32)) (fun t => (t.txbuf, t.txCur, t.resp)) =
    some ([(0, 0x34#8)], 1#4, some .done) := by decide
/-- V-PUSH-04, first push. -/
theorem test_pushS8 : after (step (pushed [] 0xB#4 0xFFFFFF80#32)) (fun t => (t.txbuf, t.txCur)) =
    some ([(0, 0x80#8)], 1#4) := by decide
/-- V-PUSH-05. -/
theorem test_pushU16 : after (step (pushed [] 0xC#4 0x1234#32)) (fun t => (t.txbuf, t.txCur)) =
    some ([(0, 0x12#8), (1, 0x34#8)], 2#4) := by decide
/-- V-PUSH-04, second push. -/
theorem test_pushS16 : after (step (pushed [0x80#8] 0xD#4 0xFFFFFFFE#32)) (fun t => (t.txbuf, t.txCur)) =
    some ([(0, 0x80#8), (1, 0xFF#8), (2, 0xFE#8)], 3#4) := by decide
/-- V-PUSH-06. -/
theorem test_pushU32 : after (step (pushed [] 0xE#4 0xDEADBEEF#32)) (fun t => (t.txbuf, t.txCur)) =
    some ([(0, 0xDE#8), (1, 0xAD#8), (2, 0xBE#8), (3, 0xEF#8)], 4#4) := by decide
/-- V-PUSH-07, first push. -/
theorem test_pushS32 : after (step (pushed [] 0xF#4 0x80000000#32)) (fun t => (t.txbuf, t.txCur)) =
    some ([(0, 0x80#8), (1, 0#8), (2, 0#8), (3, 0#8)], 4#4) := by decide
/-- V-PUSH-09: 4 bytes at cursor 11 fit exactly. -/
theorem test_push_fits :
    after (step { pushed [] 0xE#4 0x0B0C0D0E#32 with txCur := 11#4 }) (fun t => (t.cvFault, t.txCur)) =
    some (none, 15#4) := by decide
/-- V-PUSH-15: 12 + 4 does not. -/
theorem test_push_overflow :
    after (step { pushed [] 0xE#4 0 with txCur := 12#4 }) (fun t => (t.cvFault, t.txCur, t.txbuf)) =
    some (some .pushOverflow, 12#4, []) := by decide

/-- V-ACK-01, first line. -/
theorem test_ack : after (step (pushed [0x01#8] 0x8#4 0)) (fun t => (t.mode, t.txEn, t.trace)) =
    some (.ackPre, true, [.txEnRise]) := by decide
/-- V-ACK-05. -/
theorem test_ack_outsideWindow : after (step { State.reset with req := some ⟨0x8#4, 0⟩ })
    (fun t => (t.cvFault, t.txEn)) = some (some .ackOutsideWindow, false) := by decide
/-- V-SRC-3: the frame of one byte 0x01. -/
theorem test_ackSend : after (step (acking .ackSend [0x01#8])) (fun t => (t.mode, t.txq, t.txCsum)) =
    some (.ackFlush, [0x78#8, 0xE1#8, 0x01#8, 0x5A#8], 0x5A#8) := by decide
/-- V-ACK-02. -/
theorem test_ackSend_noData : after (step (acking .ackSend [])) (fun t => (t.mode, t.txq, t.txCsum)) =
    some (.ackFlush, [0x77#8], 0x77#8) := by decide

/-- V-RST-04. -/
theorem test_reset_inAck :
    after (step { acking .ackFlush [0x01#8] with turns := [.rst true] })
      (fun t => (t.txEn, t.mode, t.trace, t.resp)) = some (false, .idle, [.txEnFall], none) := by decide
/-- V-REF-03: 0x3E + 2 at the release of reset. -/
theorem test_badConfig :
    after (step { State.reset with
        cfg := { exampleConfig with baseAddr := 0x3E#6, boardSel := 2#2 }, rst := true, turns := [.rst false] })
      (fun t => t.refused) = some (some .badConfig) := by decide

/-- R37: P_NODATA_TRAILER is fixed at build time, while the inputs may be set under reset. -/
theorem test_config_underReset :
    after (step { State.reset with rst := true, turns := [.config ⟨0x20#6, 1#2, 9600, 300000⟩] })
      (fun t => (t.cfg.myAddr, t.cfg.noDataTrailer, t.refused)) = some (some 0x21#6, false, none) := by decide
/-- V-RX-09: a POLL ends in WFC and the next one goes on there. -/
theorem test_poll_split : after (step (polling 2#3 0x66#8 [0x02#8])) (fun t => (t.ps, t.csum, t.cmdReg)) =
    some (3#3, 0x68#8, 0x02#8) := by decide
/-- The six constants of R8. -/
theorem test_constants : hdrCmd = 0xAA#8 ∧ addrTag = 0b10#2 ∧ ackNoData = 0x77#8 ∧ ackData = 0x78#8 ∧
    bufCap = 16 ∧ maxPayload = 15 := by decide

/-! ### A witness for every statement with hypotheses -/

theorem test_witness_EncodedWordDecodes :
    ((Instr.rxData 0x12#8).wellFormed = true ∧ (Instr.rxData 0x12#8).selectedBy ctxOther = true) ∧
    ((Instr.rxDataLast 0x12#8).wellFormed = true ∧ (Instr.rxDataLast 0x12#8).selectedBy ctxLast = true) ∧
    ((Instr.rxCsumOk 0x58#8).wellFormed = true ∧ (Instr.rxCsumOk 0x58#8).selectedBy ctxLast = true) ∧
    ((Instr.rxAddrMiss 0x58#8).wellFormed = true ∧ (Instr.rxAddrMiss 0x58#8).selectedBy ctxOther = true) ∧
    ((Instr.rxCsumBad 0x59#8).wellFormed = true ∧ (Instr.rxCsumBad 0x59#8).selectedBy ctxOther = true) := by
  decide

theorem test_witness_DecodedWordEncodes :
    decode ctxLast (.request 0xA#4 0xFFFFFFFF#32) = .ok (.pushU8 0xFFFFFFFF#32) ∧
    decode ctxLast (.receive 0x5FF#11) = .ok (.rxCsumBad 0xFF#8) := ⟨rfl, rfl⟩

theorem test_witness_HeaderByteStartsPacket :
    ((polling 0#3 0#8 [])).mode = .polling ∧ ((polling 0#3 0#8 [])).ps = 0#3 ∧ (0xAB#8 : Byte) ≠ 0xAA#8 := by decide

theorem test_witness_AddressByteRecorded :
    (polling 1#3 0xAA#8 []).mode = .polling ∧ (polling 1#3 0xAA#8 []).ps = 1#3 ∧
    (0x80#8 : Byte).extractLsb' 6 2 = 0b10#2 ∧ (0xBF#8 : Byte).extractLsb' 6 2 = 0b10#2 ∧
    (0x7F#8 : Byte).extractLsb' 6 2 ≠ 0b10#2 ∧ (0xC0#8 : Byte).extractLsb' 6 2 ≠ 0b10#2 := by decide

theorem test_witness_CommandByteRecorded :
    (polling 2#3 0#8 []).mode = .polling ∧ (polling 2#3 0#8 []).ps = 2#3 := by decide

/-- The three clauses at their boundary: 0xF0, 0xE1 and 0x0F, 0xE0 and 0xFF. -/
theorem test_witness_SizeByteRecorded :
    (polling 3#3 0#8 []).mode = .polling ∧ (polling 3#3 0#8 []).ps = 3#3 ∧
    ((0xE1#8 : Byte).extractLsb' 4 4 = ~~~((0xE1#8 : Byte).extractLsb' 0 4) ∧
      (0xE1#8 : Byte).extractLsb' 0 4 ≠ 0#4) ∧
    ((0x0F#8 : Byte).extractLsb' 4 4 = ~~~((0x0F#8 : Byte).extractLsb' 0 4) ∧
      (0x0F#8 : Byte).extractLsb' 0 4 ≠ 0#4) ∧
    (0xE0#8 : Byte).extractLsb' 4 4 ≠ ~~~((0xE0#8 : Byte).extractLsb' 0 4) ∧
    (0xFF#8 : Byte).extractLsb' 4 4 ≠ ~~~((0xFF#8 : Byte).extractLsb' 0 4) ∧
    ¬ ((0xF0#8 : Byte).extractLsb' 0 4 ≠ 0#4) := by decide

theorem test_witness_DataByteStored :
    ((inData 0#8 13#4 15#4 [] []).mode = .polling ∧ (inData 0#8 13#4 15#4 [] []).ps = 4#3 ∧
      (inData 0#8 13#4 15#4 [] []).dcount.toNat + 1 < (inData 0#8 13#4 15#4 [] []).sizeReg.toNat) ∧
    ((inData 0#8 14#4 15#4 [] []).mode = .polling ∧ (inData 0#8 14#4 15#4 [] []).ps = 4#3 ∧
      (inData 0#8 14#4 15#4 [] []).dcount.toNat + 1 = (inData 0#8 14#4 15#4 [] []).sizeReg.toNat) := by decide

/-- In WFK, for this device. -/
def atCsum (a : Addr) : State := { polling 5#3 0x58#8 [0x58#8] with candAddr := a }

theorem test_witness_MatchingPacketAccepted :
    (atCsum 0x3C#6).mode = .polling ∧ (atCsum 0x3C#6).ps = 5#3 ∧
    (atCsum 0x3C#6).cfg.myAddr = some (atCsum 0x3C#6).candAddr := by decide

theorem test_witness_OtherPacketDiscarded :
    (atCsum 0x3D#6).mode = .polling ∧ (atCsum 0x3D#6).ps = 5#3 ∧ (0x59#8 : Byte) ≠ (atCsum 0x3D#6).csum ∧
    (0x58#8 : Byte) = (atCsum 0x3D#6).csum ∧ (atCsum 0x3D#6).cfg.myAddr = some 0x3C#6 ∧
    (atCsum 0x3D#6).candAddr ≠ 0x3C#6 := by decide

theorem test_witness_TransitionTableTotal :
    (inData 0#8 14#4 15#4 [] []).mode = .polling ∧ (inData 0#8 14#4 15#4 [] []).ps.toNat ≤ 5 ∧
    ((inData 0#8 14#4 15#4 [] []).ps = 4#3 →
      (inData 0#8 14#4 15#4 [] []).dcount.toNat < (inData 0#8 14#4 15#4 [] []).sizeReg.toNat) ∧
    (inData 0#8 14#4 15#4 [] []).cfg.addressLegal = true ∧ (polling 5#3 0#8 []).ps.toNat ≤ 5 := by decide

theorem engineNext_of {s : State} (h1 : s.turns = []) (h2 : s.rst = false) (h3 : s.cvFault = none)
    (h4 : s.refused = none) : Stated.engineNext s := ⟨h1, h2, h3, h4⟩

theorem test_witness_EndingByteConsumed :
    Stated.engineNext (atCsum 0x3C#6) ∧ (atCsum 0x3C#6).mode = .polling ∧ (atCsum 0x3C#6).rxq = [0x58#8] ∧
    decode (atCsum 0x3C#6).rxCtx (.receive (rxWord (atCsum 0x3C#6).ps 0x58#8)) = .ok (.rxCsumOk 0x58#8) ∧
    decode (atCsum 0x3D#6).rxCtx (.receive (rxWord (atCsum 0x3D#6).ps 0x58#8)) = .ok (.rxAddrMiss 0x58#8) ∧
    decode (atCsum 0x3C#6).rxCtx (.receive (rxWord (atCsum 0x3C#6).ps 0x59#8)) = .ok (.rxCsumBad 0x59#8) ∧
    decode State.reset.rxCtx (.receive (rxWord 1#3 0#8)) = .ok (.rxAddrBad 0#8) ∧
    decode State.reset.rxCtx (.receive (rxWord 3#3 0#8)) = .ok (.rxSizeBad 0#8) :=
  ⟨engineNext_of rfl rfl rfl rfl, rfl, rfl, rfl, rfl, rfl, rfl, rfl⟩

/-- An idle engine, an empty RXQ in a POLL, and a byte that ends the POLL and one that does not. -/
theorem test_witness_PollLoop :
    State.reset.mode = .idle ∧
    (Stated.engineNext (polling 2#3 0#8 []) ∧ (polling 2#3 0#8 []).mode = .polling ∧
      (polling 2#3 0#8 []).rxq = []) ∧
    (∃ t, Stated.engineNext (atCsum 0x3C#6) ∧ (atCsum 0x3C#6).mode = .polling ∧ (atCsum 0x3C#6).rxq = [0x58#8] ∧
      decode (atCsum 0x3C#6).rxCtx (.receive (rxWord (atCsum 0x3C#6).ps 0x58#8)) = .ok (.rxCsumOk 0x58#8) ∧
      step (atCsum 0x3C#6) = .next t) ∧
    (∃ t, Stated.engineNext (polling 0#3 0#8 pa) ∧ (polling 0#3 0#8 pa).mode = .polling ∧
      (polling 0#3 0#8 pa).rxq = 0xAA#8 :: pa.tail ∧
      decode (polling 0#3 0#8 pa).rxCtx (.receive (rxWord (polling 0#3 0#8 pa).ps 0xAA#8)) = .ok .rxHdr ∧
      step (polling 0#3 0#8 pa) = .next t) :=
  ⟨rfl, ⟨engineNext_of rfl rfl rfl rfl, rfl, rfl⟩, ⟨_, engineNext_of rfl rfl rfl rfl, rfl, rfl, rfl, rfl⟩,
    ⟨_, engineNext_of rfl rfl rfl rfl, rfl, rfl, rfl, rfl⟩⟩

theorem test_witness_NotReadyKeepsParser :
    Stated.engineNext (polling 4#3 0#8 []) ∧ (polling 4#3 0#8 []).mode = .polling ∧ (polling 4#3 0#8 []).rxq = [] :=
  ⟨engineNext_of rfl rfl rfl rfl, rfl, rfl⟩

/-- The packet PC, one data byte, and a packet of no data byte. -/
theorem test_witness_ChecksumLaw :
    (Stated.engineNext (polling 0#3 0#8 pc) ∧ (polling 0#3 0#8 pc).mode = .polling ∧
      (polling 0#3 0#8 pc).ps = 0#3 ∧ [0x09#8].length ≤ 15 ∧
      (polling 0#3 0#8 pc).rxq =
        0xAA#8 :: encAddr 0x3C#6 :: 0x07#8 :: encSize (BitVec.ofNat 4 [0x09#8].length) :: ([0x09#8] ++ [0x57#8])) ∧
    (polling 0#3 0#8 pa).rxq =
      0xAA#8 :: encAddr 0x3C#6 :: 0x02#8 :: encSize (BitVec.ofNat 4 ([] : List Byte).length) :: ([] ++ [0x58#8]) :=
  ⟨⟨engineNext_of rfl rfl rfl rfl, rfl, rfl, by decide, by decide⟩, by decide⟩

theorem test_witness_WellFormedPacketAccepted :
    Stated.engineNext (polling 0#3 0#8 (pa ++ pc)) ∧ (polling 0#3 0#8 (pa ++ pc)).mode = .polling ∧
    (polling 0#3 0#8 (pa ++ pc)).ps = 0#3 ∧ ([] : List Byte).length ≤ 15 ∧
    (polling 0#3 0#8 (pa ++ pc)).cfg.myAddr = some 0x3C#6 ∧
    (polling 0#3 0#8 (pa ++ pc)).rxq = packet 0x3C#6 0x02#8 [] ++ pc :=
  ⟨engineNext_of rfl rfl rfl rfl, rfl, rfl, by decide, by decide, by decide⟩

/-- PA with another checksum byte, and PA at a device with address 0x3D. -/
theorem test_witness_CorruptOrForeignPacketDropped :
    (Stated.engineNext (polling 0#3 0#8 (pa.take 4 ++ [0x59#8])) ∧
      (polling 0#3 0#8 (pa.take 4 ++ [0x59#8])).cfg.addressLegal = true ∧
      (polling 0#3 0#8 (pa.take 4 ++ [0x59#8])).rxq =
        0xAA#8 :: encAddr 0x3C#6 :: 0x02#8 :: encSize (BitVec.ofNat 4 ([] : List Byte).length) ::
          ([] ++ 0x59#8 :: []) ∧
      (0x59#8 : Byte) ≠ 0xAA#8 + encAddr 0x3C#6 + 0x02#8 + encSize 0#4) ∧
    ({ exampleConfig with boardSel := 1#2 }.addressLegal = true ∧
      { exampleConfig with boardSel := 1#2 }.myAddr ≠ some 0x3C#6 ∧
      pa = 0xAA#8 :: encAddr 0x3C#6 :: 0x02#8 :: encSize (BitVec.ofNat 4 ([] : List Byte).length) ::
        ([] ++ 0x58#8 :: [])) :=
  ⟨⟨engineNext_of rfl rfl rfl rfl, by decide, by decide, by decide⟩, by decide, by decide, by decide⟩

theorem test_witness_NoiseWithoutHeaderSkipped :
    Stated.engineNext (polling 0#3 0#8 ([0x00#8, 0xFF#8, 0x55#8] ++ pa)) ∧
    (polling 0#3 0#8 ([0x00#8, 0xFF#8, 0x55#8] ++ pa)).mode = .polling ∧
    (polling 0#3 0#8 ([0x00#8, 0xFF#8, 0x55#8] ++ pa)).ps = 0#3 ∧ 0xAA#8 ∉ [0x00#8, 0xFF#8, 0x55#8] ∧
    (polling 0#3 0#8 ([0x00#8, 0xFF#8, 0x55#8] ++ pa)).rxq = [0x00#8, 0xFF#8, 0x55#8] ++ pa :=
  ⟨engineNext_of rfl rfl rfl rfl, rfl, rfl, by decide, rfl⟩

/-- The clauses of a pop: outside the window; one past the size; the last byte exactly; for each width. -/
theorem test_witness_Pops :
    (State.reset.mode = .idle ∧ State.reset.rxwin = false) ∧
    (∀ w ∈ [1, 2, 4],
      (accepted (List.replicate (w - 1) 0x11#8) 0 0).mode = .idle ∧
      (accepted (List.replicate (w - 1) 0x11#8) 0 0).rxwin = true ∧
      (accepted (List.replicate (w - 1) 0x11#8) 0 0).accSize.toNat <
        (accepted (List.replicate (w - 1) 0x11#8) 0 0).rdCur.toNat + w) ∧
    (∀ w ∈ [1, 2, 4],
      (accepted (List.replicate w 0x11#8) 0 0).mode = .idle ∧
      (accepted (List.replicate w 0x11#8) 0 0).rxwin = true ∧
      (accepted (List.replicate w 0x11#8) 0 0).rdCur.toNat + w ≤
        (accepted (List.replicate w 0x11#8) 0 0).accSize.toNat ∧
      ∀ k < w, (accepted (List.replicate w 0x11#8) 0 0).rxbuf.read k = some 0x11#8) := by decide

/-- The clauses of a push: outside the window; one past 15; exactly 15. -/
theorem test_witness_Pushes :
    (State.reset.mode = .idle ∧ State.reset.txwin = false) ∧
    (∀ w ∈ [1, 2, 4],
      ({ pushed [] 0 0 with txCur := BitVec.ofNat 4 (16 - w) } : State).mode = .idle ∧
      ({ pushed [] 0 0 with txCur := BitVec.ofNat 4 (16 - w) } : State).txwin = true ∧
      15 < ({ pushed [] 0 0 with txCur := BitVec.ofNat 4 (16 - w) } : State).txCur.toNat + w) ∧
    (∀ w ∈ [1, 2, 4],
      ({ pushed [] 0 0 with txCur := BitVec.ofNat 4 (15 - w) } : State).mode = .idle ∧
      ({ pushed [] 0 0 with txCur := BitVec.ofNat 4 (15 - w) } : State).txwin = true ∧
      ({ pushed [] 0 0 with txCur := BitVec.ofNat 4 (15 - w) } : State).txCur.toNat + w ≤ 15) := by decide

/-- The range of a type at its ends, for each width and signedness. -/
theorem test_witness_PushedValueReadsBack :
    (0xFF#32 : Word32).toNat < 2 ^ (8 * Width.w1.bytes) ∧ (0xFFFF#32 : Word32).toNat < 2 ^ (8 * Width.w2.bytes) ∧
    (0xFFFFFFFF#32 : Word32).toNat < 2 ^ (8 * Width.w4.bytes) ∧
    (-(2 ^ (8 * Width.w1.bytes - 1) : Int) ≤ (0xFFFFFF80#32 : Word32).toInt ∧
      (0xFFFFFF80#32 : Word32).toInt < 2 ^ (8 * Width.w1.bytes - 1)) ∧
    (-(2 ^ (8 * Width.w2.bytes - 1) : Int) ≤ (0x7FFF#32 : Word32).toInt ∧
      (0x7FFF#32 : Word32).toInt < 2 ^ (8 * Width.w2.bytes - 1)) ∧
    (-(2 ^ (8 * Width.w4.bytes - 1) : Int) ≤ (0x80000000#32 : Word32).toInt ∧
      (0x80000000#32 : Word32).toInt < 2 ^ (8 * Width.w4.bytes - 1)) := by decide

theorem test_witness_AckStart :
    ((pushed [0x01#8] 0x8#4 0).mode = .idle ∧ (pushed [0x01#8] 0x8#4 0).txwin = true) ∧
    (State.reset.mode = .idle ∧ State.reset.txwin = false) := by decide

theorem test_witness_ReplyFrameSent :
    (Stated.engineNext (acking .ackSend []) ∧ (acking .ackSend []).mode = .ackSend ∧
      (acking .ackSend []).txCur = 0#4) ∧
    (Stated.engineNext (acking .ackSend (List.replicate 15 0x55#8)) ∧
      (acking .ackSend (List.replicate 15 0x55#8)).mode = .ackSend ∧
      (acking .ackSend (List.replicate 15 0x55#8)).txCur ≠ 0#4 ∧
      (List.replicate 15 (0x55#8 : Byte)).length = (acking .ackSend (List.replicate 15 0x55#8)).txCur.toNat ∧
      ∀ k, k < 15 → (acking .ackSend (List.replicate 15 0x55#8)).txbuf.read k = (List.replicate 15 0x55#8)[k]?) :=
  ⟨⟨engineNext_of rfl rfl rfl rfl, rfl, rfl⟩, engineNext_of rfl rfl rfl rfl, rfl, by decide, by decide, by decide⟩

/-- The four phases; ACK_FLUSH before and after the flush. -/
theorem test_witness_AckPhases :
    (Stated.engineNext (acking .ackPre []) ∧ (acking .ackPre []).mode = .ackPre) ∧
    (Stated.engineNext { acking .ackFlush [] with txFlushed := false, txq := [0x77#8] }) ∧
    (Stated.engineNext (acking .ackFlush []) ∧ (acking .ackFlush []).txFlushed = true) ∧
    (Stated.engineNext (acking .ackPost []) ∧ (acking .ackPost []).mode = .ackPost) :=
  ⟨⟨engineNext_of rfl rfl rfl rfl, rfl⟩, engineNext_of rfl rfl rfl rfl, ⟨engineNext_of rfl rfl rfl rfl, rfl⟩,
    engineNext_of rfl rfl rfl rfl, rfl⟩

/-- An ACK with one byte pushed, and its six turns. -/
def ackRun : State :=
  { pushed [0x01#8] 0x8#4 0 with turns := [.engine, .engine, .engine, .flushed, .engine, .engine] ++ [] }

theorem test_witness_AckTransaction :
    ackRun.mode = .idle ∧ ackRun.rst = false ∧ ackRun.clean ∧ ackRun.req = some ⟨0x8#4, 0⟩ ∧
    ackRun.txwin = true ∧ ackRun.txbuf.readBytes 0 ackRun.txCur.toNat = some [0x01#8] ∧
    ackRun.turns = [.engine, .engine, .engine, .flushed, .engine, .engine] ++ [] :=
  ⟨rfl, rfl, ⟨rfl, rfl⟩, rfl, rfl, rfl, rfl⟩

theorem test_witness_AckHoldsWithoutFlush :
    Stated.engineNext { acking .ackFlush [0x01#8] with txFlushed := false } ∧
    ({ acking .ackFlush [0x01#8] with txFlushed := false } : State).mode = .ackFlush ∧
    ({ acking .ackFlush [0x01#8] with txFlushed := false } : State).txFlushed = false :=
  ⟨engineNext_of rfl rfl rfl rfl, rfl, rfl⟩

theorem test_witness_ViolationWritesNothingElse :
    ∃ t, exec .popU8 State.reset = .next t ∧ t.cvFault ≠ State.reset.cvFault :=
  ⟨_, rfl, by decide⟩

/-- A state with a recorded violation, one with a recorded refusal, and the reset that clears both. -/
theorem test_witness_MarkedRunIsOver :
    ({ State.reset with cvFault := some .popPastSize } : State).cvFault = some .popPastSize ∧
    ({ State.reset with refused := some .reservedRequest } : State).refused = some .reservedRequest ∧
    (∀ b, ({ State.reset with cvFault := some .popPastSize } : State).turns.headD .engine ≠ .rst b) ∧
    (∃ t, step { State.reset with cvFault := some .popPastSize, turns := [.rst true] } = .next t ∧
      t.cvFault = none) ∧
    (∃ t, step { State.reset with refused := some .badConfig, turns := [.rst true] } = .next t ∧
      t.refused = none) :=
  ⟨rfl, rfl, by simp [State.reset], ⟨_, rfl, rfl⟩, ⟨_, rfl, rfl⟩⟩

/-- The four refusals of the statement. -/
theorem test_witness_RefusalsRecorded :
    (Stated.engineNext { State.reset with req := some ⟨0x9#4, 0⟩ } ∧
      ({ State.reset with req := some ⟨0x9#4, 0⟩ } : State).mode = .idle) ∧
    (Stated.engineNext (polling 6#3 0#8 [0#8]) ∧ (polling 6#3 0#8 [0#8]).mode = .polling ∧
      (polling 7#3 0#8 [0#8]).ps = 7#3) ∧
    (63 < (0x3F#6 : Addr).toNat + (1#2 : BitVec 2).toNat ∧
      ({ State.reset with rst := true, turns := [.rst false] } : State).rst = true) ∧
    (State.reset.clean ∧ ({ exampleConfig.toConfigInputs with boardSel := 1#2 } : ConfigInputs) ≠ State.reset.cfg.toConfigInputs) :=
  ⟨⟨engineNext_of rfl rfl rfl rfl, rfl⟩, ⟨engineNext_of rfl rfl rfl rfl, rfl, rfl⟩, ⟨by decide, rfl⟩, ⟨rfl, rfl⟩,
    by decide⟩

theorem test_witness_ResetTurn :
    ({ acking .ackFlush [0x01#8] with turns := [.rst true] } : State).turns = .rst true :: [] ∧
    ({ acking .ackFlush [0x01#8] with turns := [.rst true] } : State).rst = false := ⟨rfl, rfl⟩

theorem test_witness_StepRunsDecoded :
    ((accepted [0x05#8] 0x2#4 0).nextTurn = .engine ∧ (accepted [0x05#8] 0x2#4 0).rst = false ∧
      (accepted [0x05#8] 0x2#4 0).clean ∧ (accepted [0x05#8] 0x2#4 0).mode = .idle ∧
      (accepted [0x05#8] 0x2#4 0).req = some ⟨0x2#4, 0⟩ ∧
      decode (accepted [0x05#8] 0x2#4 0).rxCtx (.request 0x2#4 0) = .ok .popU8) ∧
    ((polling 0#3 0#8 pa).nextTurn = .engine ∧ (polling 0#3 0#8 pa).rst = false ∧ (polling 0#3 0#8 pa).clean ∧
      (polling 0#3 0#8 pa).mode = .polling ∧ (polling 0#3 0#8 pa).rxq = 0xAA#8 :: pa.tail ∧
      decode (polling 0#3 0#8 pa).rxCtx (.receive (rxWord (polling 0#3 0#8 pa).ps 0xAA#8)) = .ok .rxHdr) :=
  ⟨⟨rfl, rfl, ⟨rfl, rfl⟩, rfl, rfl, rfl⟩, rfl, rfl, ⟨rfl, rfl⟩, rfl, rfl, rfl⟩

theorem test_witness_PlacedWordRuns :
    State.reset.cfg.addressLegal = true ∧ decodeTableWord 8 0xA = some (.pushU8 0) ∧
    decodeTableWord 16 0x500 = some (.rxCsumOk 0#8) := ⟨rfl, rfl, rfl⟩

/-- One instruction of each group of the frame statements answers a next state. -/
theorem test_witness_InstructionFrames :
    (∃ t, exec .poll State.reset = .next t) ∧ (∃ t, exec .ack (pushed [] 0x8#4 0) = .next t) ∧
    (∃ t, exec .popS16 (accepted [0x80#8, 0#8] 0x5#4 0) = .next t) ∧
    (∃ t, exec (.pushU16 7) (pushed [] 0xC#4 7) = .next t) ∧
    (∃ t, exec (.rxCsumOk 0x58#8) (atCsum 0x3C#6) = .next t) ∧
    (∃ t, exec (.rxCmd 0x02#8) (polling 2#3 0#8 []) = .next t) :=
  ⟨⟨_, rfl⟩, ⟨_, rfl⟩, ⟨_, rfl⟩, ⟨_, rfl⟩, ⟨_, rfl⟩, ⟨_, rfl⟩⟩

theorem test_witness_BufferBytesChangedOnlyByWriters :
    (∃ t, exec (.rxData 0x12#8) (inData 0#8 0#4 2#4 [] []) = .next t) ∧
    (∃ t, exec (.pushU32 7) (pushed [] 0xE#4 7) = .next t) ∧ (∃ t, exec .poll State.reset = .next t) :=
  ⟨⟨_, rfl⟩, ⟨_, rfl⟩, ⟨_, rfl⟩⟩

/-- A delivered byte, a taken byte, and a hold. -/
theorem test_witness_ReceiveQueueOrder :
    (∃ t, step { State.reset with turns := [.rx 0xAA#8] } = .next t) ∧
    (∃ t, step (polling 0#3 0#8 pa) = .next t) ∧ (∃ t, step State.reset = .next t) :=
  ⟨⟨_, rfl⟩, ⟨_, rfl⟩, ⟨_, rfl⟩⟩

theorem test_witness_HostWaitsForResponse :
    (({ State.reset with turns := [.host ⟨0x1#4, 0⟩] } : State).turns = .host ⟨0x1#4, 0⟩ :: [] ∧
      State.reset.clean ∧ State.reset.rst = false ∧ State.reset.req = none ∧ State.reset.mode = .idle) ∧
    ((polling 0#3 0#8 []).clean ∧ (polling 0#3 0#8 []).rst = false ∧ (polling 0#3 0#8 []).req ≠ none) :=
  ⟨⟨rfl, ⟨rfl, rfl⟩, rfl, rfl, rfl⟩, ⟨rfl, rfl⟩, rfl, by decide⟩

/-- The dispatcher's state, and the clauses: a code not served, a size that does not match, a read of size 0, the
same read with the `LITERAL_SIZE_BUG`, and a command that is no read. -/
theorem test_witness_DispatcherServesCommands :
    (∀ n ∈ [0#4, 3#4],
      ({ State.reset with
          resp := some (.ready 0x02#8 n), turns := [.dispatch ⟨true, false, false, false⟩] } : State).resp =
        some (.ready 0x02#8 n)) ∧
    State.reset.clean ∧ State.reset.rst = false ∧ State.reset.req = none ∧ State.reset.mode = .idle ∧
    State.reset.hostq = [] ∧ commandOf State.reset.hostParams 0xFF#8 = none ∧
    (commandOf State.reset.hostParams 0x02#8 = some (.read .a) ∧
      ∀ x, Command.read .a = .read x → State.reset.hostParams.literalSizeBug ≠ some x) ∧
    ({ exampleHostParams with literalSizeBug := some .a } : HostParams).literalSizeBug = some .a ∧
    (commandOf State.reset.hostParams 0x01#8 = some .ping ∧ ∀ x, Command.ping ≠ .read x) :=
  ⟨by decide, ⟨rfl, rfl⟩, rfl, rfl, rfl, rfl, rfl, ⟨rfl, by intro x _; simp [State.reset, exampleHostParams]⟩, rfl, rfl,
    by intro x; exact Command.noConfusion⟩

theorem test_witness_DispatcherCommandCodes : exampleHostParams.codesDistinct := by
  unfold HostParams.codesDistinct; decide

/-- A command being served, nothing to do, and a request outstanding. -/
theorem test_witness_DispatcherCycle :
    (({ State.reset with turns := [.dispatch ⟨true, false, false, false⟩], hostq := [⟨0x8#4, 0⟩] } : State).hostq =
        ⟨0x8#4, 0⟩ :: [] ∧ State.reset.clean ∧ State.reset.rst = false ∧ State.reset.req = none ∧
      State.reset.mode = .idle) ∧
    (State.reset.hostq = [] ∧ ∀ c n, State.reset.resp ≠ some (.ready c n)) ∧
    ((polling 0#3 0#8 []).req ≠ none ∧ (polling 0#3 0#8 []).clean ∧ (polling 0#3 0#8 []).rst = false) :=
  ⟨⟨rfl, ⟨rfl, rfl⟩, rfl, rfl, rfl⟩, ⟨rfl, by simp [State.reset]⟩, by decide, ⟨rfl, rfl⟩, rfl⟩

/-- A frame, a transmitted byte, the flush, and a step that leaves TXQ. -/
theorem test_witness_TransmitQueueOrder :
    (∃ t, step (acking .ackSend [0x01#8]) = .next t) ∧
    (∃ t, step { acking .ackFlush [] with txq := [0x77#8], txFlushed := false, turns := [.txSend] } = .next t) ∧
    (∃ t, step { acking .ackFlush [] with txq := [0x77#8], txFlushed := false, turns := [.flushed] } = .next t) ∧
    (∃ t, step State.reset = .next t) :=
  ⟨⟨_, rfl⟩, ⟨_, rfl⟩, ⟨_, rfl⟩, ⟨_, rfl⟩⟩

/-- A tagged address byte in WFA at its two ends, and the longest reply. -/
theorem test_witness_AddressByteEncoding :
    addrTagged 0x80#8 = true ∧ addrTagged 0xBF#8 = true ∧ (polling 1#3 0xAA#8 []).mode = .polling ∧
    (polling 1#3 0xAA#8 []).ps = 1#3 ∧
    decode (polling 1#3 0xAA#8 []).rxCtx (.receive (rxWord 1#3 0xBF#8)) = .ok (.rxAddr 0x3F#6) :=
  ⟨rfl, rfl, rfl, rfl, rfl⟩

theorem test_witness_SizeByteEncoding :
    List.replicate 15 (0x55#8 : Byte) ≠ [] ∧ (List.replicate 15 (0x55#8 : Byte)).length ≤ 15 := by decide

theorem test_witness_ConfigurationStatic : ∃ t, step State.reset = .next t ∧ State.reset.rst = false :=
  ⟨_, rfl, rfl⟩

/-- The other codes, at the ends of the two ranges. -/
theorem test_witness_ReservedCodesExactly :
    ∀ op ∈ [0x1#4, 0x8#4, 0xA#4, 0xF#4], op ≠ 0x0#4 ∧ op ≠ 0x9#4 := by decide

theorem test_witness_TransportTurnsFrame :
    State.reset.clean ∧ ({ State.reset with turns := [.rx 0xAA#8] } : State).turns = .rx 0xAA#8 :: [] ∧
    ({ State.reset with turns := [.txSend] } : State).turns = .txSend :: [] ∧
    ({ State.reset with turns := [.flushed] } : State).turns = .flushed :: [] := ⟨⟨rfl, rfl⟩, rfl, rfl, rfl⟩

/-- Under reset: an engine turn, a host, a dispatcher, a configuration, and the release. -/
theorem test_witness_ResetHeldAndReleased :
    ({ State.reset with rst := true } : State).rst = true ∧ ({ State.reset with rst := true } : State).clean ∧
    ({ State.reset with rst := true } : State).nextTurn = .engine ∧
    ({ State.reset with rst := true, turns := [.rst false] } : State).turns = .rst false :: [] ∧
    (0x3F#6 : Addr).toNat + (0#2 : BitVec 2).toNat ≤ 63 := ⟨rfl, ⟨rfl, rfl⟩, rfl, rfl, by decide⟩

theorem underReset_consistent : Consistent { State.reset with rst := true } := by
  constructor <;>
    first
    | rfl
    | simp [State.reset, psWFH, psWFD, psWFK, Memory.filled, Mode.isAck]

/-- An ACK request in an open window, which changes `tx_en`, from a state that meets the invariant. -/
def ackReady : State := accepted [] 0x8#4 0

theorem ackReady_consistent : Consistent ackReady := by
  constructor <;>
    first
    | rfl
    | simp [ackReady, accepted, bytes, Memory.writeBytes, State.reset, psWFH, psWFD, psWFK, Memory.filled,
        Mode.isAck, exampleConfig, Config.addressLegal]

/-- An ACK in ACK_FLUSH, from a state that meets the invariant, under the given schedule. -/
def ackWaiting (l : List Turn) : State :=
  { ackReady with
    mode := .ackFlush, txwin := false, txEn := true, txq := [0x77#8], txFlushed := false, turns := l }

theorem ackWaiting_consistent (l : List Turn) : Consistent (ackWaiting l) := by
  constructor <;>
    first
    | rfl
    | simp [ackWaiting, ackReady, accepted, bytes, Memory.writeBytes, State.reset, psWFH, psWFD, psWFK,
        Memory.filled, Mode.isAck, exampleConfig, Config.addressLegal, opAck]

/-- An engine turn, reset, and another turn in an ACK phase. -/
theorem test_witness_AckRunsInOrder :
    ∀ n ∈ [Turn.engine, .rst true, .flushed],
      Consistent (ackWaiting [n]) ∧ (ackWaiting [n]).mode.isAck = true ∧ (ackWaiting [n]).nextTurn = n ∧
        ∃ t, step (ackWaiting [n]) = .next t := by
  intro n hn
  refine ⟨ackWaiting_consistent _, rfl, rfl, ?_⟩
  simp only [List.mem_cons, List.not_mem_nil, or_false] at hn
  rcases hn with rfl | rfl | rfl <;> exact ⟨_, rfl⟩

/-- Packet PA with all but its checksum byte taken, the last byte in RXQ, and the packet not begun. -/
def paAlmost (q : List Byte) : State := { polling 5#3 0x58#8 q with candAddr := 0x3C#6, cmdReg := 0x02#8 }

theorem paAlmost_taken (q : List Byte) : Taken 0x3C#6 0x02#8 [] 4 (paAlmost q) := by
  refine ⟨rfl, fun _ => ?_, fun _ => rfl, fun _ => rfl, fun _ => rfl, fun _ h => ?_, fun i h => ?_⟩
  · show (0x58#8 : Byte) = _
    decide
  · exact absurd h (by decide)
  · exact absurd h (by simp)

theorem notBegun_taken (q : List Byte) : Taken 0x3C#6 0x02#8 [] 0 (polling 0#3 0#8 q) := by
  refine ⟨rfl, ?_, ?_, ?_, ?_, ?_, fun i h => absurd h (by simp)⟩ <;> intro h <;> exact absurd h (by decide)

/-- The clauses: the right and a wrong checksum byte, no byte, the header, and a byte of noise. -/
theorem test_witness_PacketProgress :
    Taken 0x3C#6 0x02#8 [] 4 (paAlmost [0x58#8]) ∧ (paAlmost [0x58#8]).nextTurn ≠ .rst true ∧
    (paAlmost [0x58#8]).takes = some 0x58#8 ∧ (packet 0x3C#6 0x02#8 [])[4]? = some 0x58#8 ∧
    (paAlmost [0x58#8]).cfg.myAddr = some 0x3C#6 ∧ (∃ t, step (paAlmost [0x58#8]) = .next t) ∧
    (paAlmost [0x59#8]).takes = some 0x59#8 ∧ (packet 0x3C#6 0x02#8 [])[4]? ≠ some 0x59#8 ∧
    (paAlmost [0x59#8]).cfg.addressLegal = true ∧ (∃ t, step (paAlmost [0x59#8]) = .next t) ∧
    (paAlmost []).takes = none ∧ (∃ t, step (paAlmost []) = .next t) ∧
    Taken 0x3C#6 0x02#8 [] 0 (polling 0#3 0#8 [0xAA#8]) ∧ (polling 0#3 0#8 [0xAA#8]).takes = some 0xAA#8 ∧
    (packet 0x3C#6 0x02#8 [])[0]? = some 0xAA#8 ∧ (polling 0#3 0#8 [0x55#8]).takes = some 0x55#8 :=
  ⟨paAlmost_taken _, by decide, rfl, rfl, rfl, ⟨_, rfl⟩, rfl, by decide, rfl, ⟨_, rfl⟩, rfl, ⟨_, rfl⟩,
    notBegun_taken _, rfl, rfl, rfl⟩

theorem test_witness_StepKeepsInvariant : Consistent ackReady ∧ ∃ t, step ackReady = .next t :=
  ⟨ackReady_consistent, _, rfl⟩

theorem test_witness_InvariantStatesStep : Consistent ackReady ∧ ackReady.clean :=
  ⟨ackReady_consistent, rfl, rfl⟩

theorem test_witness_TransmitEnableGated :
    Consistent ackReady ∧ ∃ t, step ackReady = .next t ∧ t.txEn ≠ ackReady.txEn :=
  ⟨ackReady_consistent, _, rfl, by decide⟩

theorem test_witness_BusGateKept :
    Consistent ackReady ∧ busGate false ackReady.trace = some ackReady.txEn ∧ ∃ t, step ackReady = .next t :=
  ⟨ackReady_consistent, rfl, _, rfl⟩

/-- Two states that differ in every unspecified register. -/
theorem test_witness_UnspecifiedValuesUnobservable :
    SameVisible State.reset
      { State.reset with
        csum := 0xFF#8, candAddr := 0x3F#6, cmdReg := 0xFF#8, sizeReg := 15#4, dcount := 15#4, accCmd := 0xFF#8,
        accSize := 15#4, txCsum := 0xFF#8, rxbuf := [(0, 0x11#8)], txbuf := [(3, 0x22#8)], resets := 5 } := by
  constructor <;> simp [State.reset, psWFH, psWFA, psWFS, psWFD, psWFK]

end Sys2Proof.Tests
end

section
/-! PROOFS. The wire encodings of the size byte (R73) and of the address byte (R72). -/

namespace Sys2Proof

/-! ### The size byte (R73) -/

/-- The two nibbles of a size byte, as one number. -/
theorem encSize_toNat (n : Nibble) : (encSize n).toNat = 16 * (15 - n.toNat) + n.toNat := by
  have hn : n.toNat < 2 ^ 4 := n.isLt
  rw [encSize, BitVec.toNat_append, ← Nat.shiftLeft_add_eq_or_of_lt hn, BitVec.toNat_not, Nat.shiftLeft_eq]
  omega

theorem sizeValid_iff_complement (b : Byte) :
    sizeValid b = true ↔ b.extractLsb' 4 4 = ~~~(b.extractLsb' 0 4) := by
  rw [sizeValid, beq_iff_eq, sizeLow]

/-- The nibbles of a valid size byte sum to 15: the complement of a nibble `x` is `15 - x`. -/
theorem sizeValid_iff_nibbleSum (b : Byte) : sizeValid b = true ↔ b.toNat / 16 + b.toNat % 16 = 15 := by
  rw [sizeValid_iff_complement, ← BitVec.toNat_inj, BitVec.toNat_not, BitVec.extractLsb'_toNat,
    BitVec.extractLsb'_toNat, Nat.shiftRight_eq_div_pow, Nat.shiftRight_zero]
  have hb : b.toNat < 256 := b.isLt
  omega

/-- The valid size bytes are the encodings, and the low nibble tells which one. -/
theorem sizeValid_iff_encSize (b : Byte) : sizeValid b = true ↔ ∃ n : Nibble, b = encSize n := by
  constructor
  · intro hb
    exact ⟨sizeLow b, (encSize_sizeLow b hb).symm⟩
  · rintro ⟨n, rfl⟩
    exact sizeValid_encSize n

theorem sizeValid_count : ((List.range 256).filter fun k => sizeValid (BitVec.ofNat 8 k)).length = 16 := by
  decide

/-! ### The address byte (R72) -/

theorem addrTagged_iff_tag (b : Byte) : addrTagged b = true ↔ b.extractLsb' 6 2 = 0b10#2 := by
  rw [addrTagged, beq_iff_eq, addrTag]

/-- The tag is the quotient of the byte by 64, so the tag `0b10` is the range 0x80..0xBF. -/
theorem addrTagged_iff_range (b : Byte) : addrTagged b = true ↔ 0x80 ≤ b.toNat ∧ b.toNat ≤ 0xBF := by
  rw [addrTagged_iff_tag, ← BitVec.toNat_inj, BitVec.extractLsb'_toNat, Nat.shiftRight_eq_div_pow,
    BitVec.toNat_ofNat]
  have hb : b.toNat < 256 := b.isLt
  omega

/-- Appending a field to the tag is or-ing it into the tag's byte. -/
theorem encAddr_eq_or (a : Addr) : encAddr a = 0x80#8 ||| a.setWidth 8 := by
  rw [encAddr, BitVec.append_def, BitVec.setWidth'_eq]
  rfl

/-- In WFA a tagged byte selects RX_ADDR with the byte's low six bits (R100). -/
theorem decode_addrByte {c : RxCtx} {b : Byte} (hb : addrTagged b = true) :
    decode c (.receive (rxWord psWFA b)) = .ok (.rxAddr (addrLow b)) := by
  rw [decode_rxWord]
  simp [decodeReceive, psWFA, psWFH, hb]

end Sys2Proof

namespace Sys2Proof.Machine

/-- The second byte of a reply with payload is the size byte of the payload (R77). -/
theorem dataFrame_getElem?_one (d : List Byte) : (dataFrame d)[1]? = some (encSize (declaredSize d)) := rfl

theorem exec_rxAddr (a : Addr) (s : State) : exec (.rxAddr a) s = execRxAddr a s := rfl

/-- RX_ADDR in a POLL that waits for the address (R103). -/
theorem exec_rxAddr_of_selected {s : State} (a : Addr) (hm : s.mode = .polling) (hp : s.ps = psWFA) :
    exec (.rxAddr a) s = .next { s with csum := s.csum + encAddr a, candAddr := a, ps := psWFC } := by
  rw [exec_rxAddr, execRxAddr, onRow_of_selected hm hp rfl]

end Sys2Proof.Machine

namespace Sys2Proof.Proofs

open Sys2Proof Sys2Proof.Machine

/-- Settles O4: the sum and the complement tests agree by the values of the nibbles, and the valid bytes are the
encodings because `sizeLow` inverts `encSize`. -/
theorem sizeByteEncoding : Obligations.SizeByteEncoding :=
  ⟨encSize_toNat, sizeValid_iff_nibbleSum, sizeValid_iff_complement, sizeValid_iff_encSize, sizeValid_count,
    fun d _ _ => dataFrame_getElem?_one d⟩

/-- Settles O5: the tag is the top two bits, and in WFA a tagged byte selects RX_ADDR, which takes the rest. -/
theorem addressByteEncoding : Obligations.AddressByteEncoding := by
  refine ⟨addrTagged_iff_tag, addrTagged_iff_range, fun a => ⟨encAddr_eq_or a, addrLow_encAddr a⟩, ?_⟩
  intro s b i hm (hp : s.ps = psWFA) hb hi
  rw [hp, decode_addrByte hb] at hi
  obtain rfl : Instr.rxAddr (addrLow b) = i := Except.ok.inj hi
  exact ⟨_, exec_rxAddr_of_selected _ hm hp, rfl⟩

end Sys2Proof.Proofs
end

section
/-! PROOFS. The receive rows: which byte selects which row (R100), what a selected row does (R101 to R113), and the
iteration of a POLL that runs it (R114, R116 to R118). -/

namespace Sys2Proof

/-! ### The row of a byte, one lemma per parser state (R100) -/

section
variable {c : RxCtx} {p : BitVec 3} (b : Byte)

theorem decode_inWFH (hp : p = psWFH) :
    decode c (.receive (rxWord p b)) = if b = hdrCmd then .ok .rxHdr else .ok (.rxSkip b) := by
  subst hp
  exact decode_rxWord c psWFH b

theorem decode_inWFA (hp : p = psWFA) :
    decode c (.receive (rxWord p b)) =
      if addrTagged b then .ok (.rxAddr (addrLow b)) else .ok (.rxAddrBad b) := by
  subst hp
  exact decode_rxWord c psWFA b

theorem decode_inWFC (hp : p = psWFC) : decode c (.receive (rxWord p b)) = .ok (.rxCmd b) := by
  subst hp
  exact decode_rxWord c psWFC b

theorem decode_inWFS (hp : p = psWFS) :
    decode c (.receive (rxWord p b)) =
      if sizeValid b then
        if sizeLow b = 0#4 then .ok .rxSize0 else .ok (.rxSizeN (sizeLow b))
      else .ok (.rxSizeBad b) := by
  subst hp
  exact decode_rxWord c psWFS b

theorem decode_inWFD (hp : p = psWFD) :
    decode c (.receive (rxWord p b)) =
      if c.dcount.toNat + 1 < c.sizeReg.toNat then .ok (.rxData b)
      else if c.dcount.toNat + 1 = c.sizeReg.toNat then .ok (.rxDataLast b)
      else .error .noReceiveRow := by
  subst hp
  exact decode_rxWord c psWFD b

/-- In WFK the checksum is compared first, whatever the address (R112, R204). -/
theorem decode_inWFK_mismatch (hp : p = psWFK) (hb : b ≠ c.csum) :
    decode c (.receive (rxWord p b)) = .ok (.rxCsumBad b) := by
  subst hp
  exact (decode_rxWord c psWFK b).trans (if_neg hb)

/-- Under a matching checksum byte the address decides (R111, R113). -/
theorem decode_inWFK_match {a : Addr} (hp : p = psWFK) (hb : b = c.csum) (ha : c.myAddr = some a) :
    decode c (.receive (rxWord p b)) = if c.candAddr = a then .ok (.rxCsumOk b) else .ok (.rxAddrMiss b) := by
  subst hp
  rw [decode_rxWord]
  simp [decodeReceive, psWFH, psWFA, psWFC, psWFS, psWFD, psWFK, hb, ha]

end

/-! ### Wire values the rows name -/

/-- Only 0xF0 is a valid size byte for no data (R106). -/
theorem eq_of_sizeLow_eq_zero {b : Byte} (hv : sizeValid b = true) (h0 : sizeLow b = 0#4) : b = 0xF0#8 := by
  rw [← encSize_sizeLow b hv, h0]
  rfl

/-- The six parser states of R81, which R42 leaves. -/
theorem ps_cases : ∀ p : BitVec 3, p.toNat ≤ 5 →
    p = psWFH ∨ p = psWFA ∨ p = psWFC ∨ p = psWFS ∨ p = psWFD ∨ p = psWFK := by decide

/-- A legal configuration has an address (R7). -/
theorem Config.myAddr_of_legal {c : Config} (h : c.addressLegal = true) : ∃ a, c.myAddr = some a :=
  ⟨_, if_pos h⟩

end Sys2Proof

namespace Sys2Proof.Machine

/-! ### Everything a receive row can do -/

/-- What `parserOnly` says of the fields a POLL in progress shows. -/
theorem parserOnly_ports {s t : State} (h : Stated.parserOnly s t) :
    t.rxq = s.rxq ∧ t.mode = s.mode ∧ t.req = s.req ∧ t.resp = s.resp := by
  rw [Stated.parserOnly] at h
  rw [h]
  exact ⟨rfl, rfl, rfl, rfl⟩

/-- Every receive row but RX_CSUM_OK writes the parser, `rxbuf` and the observation alone. -/
theorem exec_receiveRow_parserOnly {i : Instr} {s t : State} (h : exec i s = .next t)
    (hi : ¬ Stated.isRequest i) (hc : ∀ b, i ≠ .rxCsumOk b) : Stated.parserOnly s t := by
  cases i
  case rxCsumOk b => exact absurd rfl (hc b)
  case rxHdr | rxSkip | rxAddr | rxAddrBad | rxCmd | rxSize0 | rxSizeN | rxSizeBad | rxData | rxDataLast |
      rxCsumBad | rxAddrMiss =>
    obtain ⟨-, -, -, rfl⟩ := onRow_next h
    rfl
  all_goals exact absurd ⟨_, _, rfl⟩ hi

/-- RX_CSUM_OK accepts the packet and answers the POLL (R111, R118). -/
theorem exec_rxCsumOk_next {b : Byte} {s t : State} (h : exec (.rxCsumOk b) s = .next t) :
    t = s.accept.respond opPoll (.ready s.cmdReg s.sizeReg) := by
  obtain ⟨-, -, -, ht⟩ := onRow_next h
  exact ht

/-- No receive row touches RXQ: the byte was taken before it runs (R116). -/
theorem exec_receiveRow_rxq {i : Instr} {s t : State} (h : exec i s = .next t) (hi : ¬ Stated.isRequest i) :
    t.rxq = s.rxq := by
  by_cases hc : ∃ b, i = .rxCsumOk b
  · obtain ⟨b, rfl⟩ := hc
    rw [exec_rxCsumOk_next h, State.respond_rxq, State.accept_rxq]
  · exact (parserOnly_ports (exec_receiveRow_parserOnly h hi (not_exists.1 hc))).1

/-- A row that ends a packet returns the parser to WFH (R114). -/
theorem exec_endingRow_ps {i : Instr} {b : Byte} {s t : State} (h : exec i s = .next t)
    (hi : i = .rxAddrBad b ∨ i = .rxSizeBad b ∨ i = .rxCsumOk b ∨ i = .rxCsumBad b ∨ i = .rxAddrMiss b) :
    t.ps = psWFH := by
  rcases hi with rfl | rfl | rfl | rfl | rfl
  all_goals
    obtain ⟨-, -, -, rfl⟩ := onRow_next h
    rfl

/-- A receive word decodes to a receive row. -/
theorem not_isRequest_of_decode {c : RxCtx} {p : BitVec 3} {b : Byte} {i : Instr}
    (h : decode c (.receive (rxWord p b)) = .ok i) : ¬ Stated.isRequest i := by
  rw [decode_rxWord] at h
  rintro ⟨op, x, hi⟩
  rcases decodeReceive_ok h with ⟨-, -, rfl⟩ | ⟨-, -, rfl⟩ | ⟨-, -, rfl⟩ | ⟨-, -, rfl⟩ | ⟨-, rfl⟩ |
    ⟨-, -, -, rfl⟩ | ⟨-, -, -, rfl⟩ | ⟨-, -, rfl⟩ | ⟨-, -, rfl⟩ | ⟨-, -, rfl⟩ | ⟨-, -, -, rfl⟩ |
    ⟨-, -, rfl⟩ | ⟨-, -, -, -, rfl⟩
  all_goals cases hi

/-- Acceptance is decoded from the byte it names. -/
theorem csumOk_byte_of_decode {c : RxCtx} {p : BitVec 3} {b b' : Byte}
    (h : decode c (.receive (rxWord p b)) = .ok (.rxCsumOk b')) : b' = b := by
  rw [decode_rxWord] at h
  obtain ⟨-, -, -, hb⟩ : p = psWFK ∧ b = c.csum ∧ c.myAddr = some c.candAddr ∧ b' = b := by
    simpa using decodeReceive_ok h
  exact hb

/-- The row the decoder chooses runs: the guard of a row is the condition under which it was chosen (R100). -/
theorem exec_of_decode {s : State} {b : Byte} {i : Instr} (hm : s.mode = .polling)
    (h : decode s.rxCtx (.receive (rxWord s.ps b)) = .ok i) : ∃ t, exec i s = .next t := by
  rw [decode_rxWord] at h
  rcases decodeReceive_ok h with ⟨hp, hc, rfl⟩ | ⟨hp, hc, rfl⟩ | ⟨hp, hc, rfl⟩ | ⟨hp, hc, rfl⟩ | ⟨hp, rfl⟩ |
    ⟨hp, hc, -, rfl⟩ | ⟨hp, -, hc, rfl⟩ | ⟨hp, hc, rfl⟩ | ⟨hp, hc, rfl⟩ | ⟨hp, hc, rfl⟩ | ⟨hp, hb, hc, rfl⟩ |
    ⟨hp, hc, rfl⟩ | ⟨hp, hb, hs, hc, rfl⟩
  all_goals exact ⟨_, onRow_of_selected hm hp (by simp_all [State.rxCtx])⟩

/-- RX_SIZEN in a POLL that waits for the size (R107). -/
theorem exec_rxSizeN_of_selected {s : State} {n : Nibble} (hm : s.mode = .polling) (hp : s.ps = psWFS)
    (hn : n ≠ 0#4) :
    exec (.rxSizeN n) s =
      .next { s with csum := s.csum + encSize n, sizeReg := n, dcount := 0#4, ps := psWFD } :=
  onRow_of_selected hm hp (bne_iff_ne.2 hn)

/-- An accepted POLL closes both windows and enters its loop (R116). -/
theorem exec_poll_of_idle {s : State} (hm : s.mode = .idle) :
    exec .poll s = .next { s with rxwin := false, txwin := false, mode := .polling } :=
  whenIdle_of_idle _ hm

/-! ### One iteration of a POLL (R116) -/

theorem pollStep_of_empty {s : State} (hq : s.rxq = []) :
    pollStep s = .next ({ s with mode := .idle }.respond opPoll .notReady) := by
  simp [pollStep, hq]

theorem pollStep_of_byte {s : State} {b : Byte} {q : List Byte} {i : Instr} (hq : s.rxq = b :: q)
    (hd : decode s.rxCtx (.receive (rxWord s.ps b)) = .ok i) : pollStep s = exec i { s with rxq := q } := by
  simp [pollStep, hq, hd]

/-- With the empty schedule the engine moves (log entry 6). -/
theorem step_of_engineNext {s : State} (h : Stated.engineNext s) : step s = engineStep s := by
  obtain ⟨ht, -, hc⟩ := h
  have hn : s.nextTurn = .engine := by simp [State.nextTurn, ht]
  have hs : { s with turns := s.turns.tail } = s := by
    rw [show s.turns.tail = s.turns by simp [ht]]
  rw [step_engine hn hc, hs]

theorem step_of_polling {s : State} (h : Stated.engineNext s) (hm : s.mode = .polling) : step s = pollStep s := by
  rw [step_of_engineNext h, engineStep_polling h.2.1 hm]

end Sys2Proof.Machine

namespace Sys2Proof.Proofs

open Sys2Proof Sys2Proof.Machine

/-- Settles O6: the test for the header byte chooses the row, and each row writes its registers. -/
theorem headerByteStartsPacket : Obligations.HeaderByteStartsPacket := by
  intro s hm (hp : s.ps = psWFH)
  constructor
  · exact ⟨(decode_inWFH _ hp).trans (if_pos rfl), onRow_of_selected hm hp rfl⟩
  · intro b hb
    exact ⟨(decode_inWFH b hp).trans (if_neg hb), onRow_of_selected hm hp (bne_iff_ne.2 hb)⟩

/-- Settles O7: the tag chooses the row; a tagged byte is the encoding of its low six bits, so RX_ADDR too adds the
byte itself to the sum. -/
theorem addressByteRecorded : Obligations.AddressByteRecorded := by
  intro s b hm (hp : s.ps = psWFA)
  constructor
  · intro htag
    have hb : addrTagged b = true := (addrTagged_iff_tag b).2 htag
    have he := exec_rxAddr_of_selected (addrLow b) hm hp
    rw [encAddr_addrLow b hb] at he
    exact ⟨(decode_inWFA b hp).trans (if_pos hb), he⟩
  · intro htag
    have hb : ¬ addrTagged b = true := mt (addrTagged_iff_tag b).1 htag
    exact ⟨(decode_inWFA b hp).trans (if_neg hb), onRow_of_selected hm hp (by simp [hb])⟩

/-- Settles O8: WFC has one row, which takes every byte. -/
theorem commandByteRecorded : Obligations.CommandByteRecorded := by
  intro s b hm (hp : s.ps = psWFC)
  exact ⟨decode_inWFC b hp, onRow_of_selected hm hp rfl⟩

/-- Settles O9: the validity of the byte and its low nibble choose the row; a valid byte is the encoding of its low
nibble, so every row adds the byte itself to the sum. -/
theorem sizeByteRecorded : Obligations.SizeByteRecorded := by
  intro s b hm (hp : s.ps = psWFS)
  refine ⟨?_, ?_, ?_⟩
  · rintro rfl
    exact ⟨decode_inWFS _ hp, onRow_of_selected hm hp rfl⟩
  · intro hnibbles (h0 : sizeLow b ≠ 0#4)
    have hv : sizeValid b = true := (sizeValid_iff_complement b).2 hnibbles
    have he := exec_rxSizeN_of_selected hm hp h0
    rw [encSize_sizeLow b hv] at he
    exact ⟨(decode_inWFS b hp).trans ((if_pos hv).trans (if_neg h0)), he⟩
  · intro hnibbles
    have hv : ¬ sizeValid b = true := mt (sizeValid_iff_complement b).1 hnibbles
    exact ⟨(decode_inWFS b hp).trans (if_neg hv), onRow_of_selected hm hp (by simp [hv])⟩

/-- Settles O10: the count chooses the row, and both rows write the byte at index `dcount`. -/
theorem dataByteStored : Obligations.DataByteStored := by
  intro s b hm (hp : s.ps = psWFD)
  have hread : ∀ a, (s.rxbuf.write s.dcount.toNat b).read a =
      if a = s.dcount.toNat then some b else s.rxbuf.read a := fun a => Memory.read_write _ _ _ _
  constructor
  · intro hlt
    exact ⟨(decode_inWFD b hp).trans (if_pos hlt), _, onRow_of_selected hm hp (decide_eq_true hlt), hread⟩
  · intro heq
    exact ⟨(decode_inWFD b hp).trans ((if_neg heq.not_lt).trans (if_pos heq)), _,
      onRow_of_selected hm hp (beq_iff_eq.2 heq), hread⟩

/-- Settles O11: the registers select RX_CSUM_OK, and the response follows the acceptance. -/
theorem matchingPacketAccepted : Obligations.MatchingPacketAccepted := by
  intro s hm (hp : s.ps = psWFK) ha
  have he : exec (.rxCsumOk s.csum) s = .next (s.accept.respond opPoll (.ready s.cmdReg s.sizeReg)) :=
    onRow_of_selected hm hp (by simp [ha])
  refine ⟨(decode_inWFK_match _ hp rfl ha).trans (if_pos rfl), ?_⟩
  rw [he, State.respond, State.accept_trace, List.append_assoc]
  rfl

/-- Settles O12: the checksum is compared before the address, and both rows only discard. -/
theorem otherPacketDiscarded : Obligations.OtherPacketDiscarded := by
  intro s b hm (hp : s.ps = psWFK)
  constructor
  · intro hb
    exact ⟨decode_inWFK_mismatch b hp hb, onRow_of_selected hm hp (bne_iff_ne.2 hb)⟩
  · intro a hb ha hne
    exact ⟨(decode_inWFK_match b hp hb ha).trans (if_neg hne),
      onRow_of_selected hm hp (by simp [hb, ha, Ne.symm hne])⟩

/-- Settles O13: in each of the six parser states the rows of O6 to O12 cover every byte; the facts of R42 leave no
gap in WFD, and a legal address leaves none in WFK. -/
theorem transitionTableTotal : Obligations.TransitionTableTotal := by
  intro s b hm hps hcount hlegal
  rcases ps_cases s.ps hps with hp | hp | hp | hp | hp | hp
  · obtain ⟨⟨hd, he⟩, hskip⟩ := headerByteStartsPacket s hm hp
    by_cases hb : b = 0xAA#8
    · subst hb
      exact ⟨_, _, hd, he, by simp [hp, psWFH]⟩
    · obtain ⟨hd, he⟩ := hskip b hb
      exact ⟨_, _, hd, he, by simp [hp, psWFH, hb]⟩
  · obtain ⟨htagged, hbad⟩ := addressByteRecorded s b hm hp
    by_cases hb : b.extractLsb' 6 2 = 0b10#2
    · obtain ⟨hd, he⟩ := htagged hb
      exact ⟨_, _, hd, he, by simp [hp, psWFA, hb]⟩
    · obtain ⟨hd, he⟩ := hbad hb
      exact ⟨_, _, hd, he, by simp [hp, psWFA, hb]⟩
  · obtain ⟨hd, he⟩ := commandByteRecorded s b hm hp
    exact ⟨_, _, hd, he, by simp [hp, psWFC]⟩
  · obtain ⟨hnone, hsome, hbad⟩ := sizeByteRecorded s b hm hp
    by_cases h0 : b = 0xF0#8
    · obtain ⟨hd, he⟩ := hnone h0
      exact ⟨_, _, hd, he, by simp [hp, psWFS, h0]⟩
    by_cases hv : b.extractLsb' 4 4 = ~~~(b.extractLsb' 0 4)
    · have hn : b.extractLsb' 0 4 ≠ 0#4 :=
        mt (eq_of_sizeLow_eq_zero ((sizeValid_iff_complement b).2 hv)) h0
      obtain ⟨hd, he⟩ := hsome hv hn
      exact ⟨_, _, hd, he, by simp [hp, psWFS, h0, hv]⟩
    · obtain ⟨hd, he⟩ := hbad hv
      exact ⟨_, _, hd, he, by simp [hp, psWFS, h0, hv]⟩
  · obtain ⟨hmore, hlast⟩ := dataByteStored s b hm hp
    by_cases hlt : s.dcount.toNat + 1 < s.sizeReg.toNat
    · obtain ⟨hd, m, he, -⟩ := hmore hlt
      exact ⟨_, _, hd, he, by simp [hp, psWFD, hlt]⟩
    · have hbelow : s.dcount.toNat < s.sizeReg.toNat := hcount hp
      obtain ⟨hd, m, he, -⟩ := hlast (by omega)
      exact ⟨_, _, hd, he, by simp [hp, psWFD, hlt]⟩
  · obtain ⟨hbad, hmiss⟩ := otherPacketDiscarded s b hm hp
    by_cases hb : b = s.csum
    · obtain ⟨a, ha⟩ := Config.myAddr_of_legal hlegal
      by_cases hmine : s.candAddr = a
      · obtain ⟨hd, he⟩ := matchingPacketAccepted s hm hp (by rw [ha, hmine])
        subst hb
        exact ⟨_, _, hd, he, by simp [hp, psWFK]⟩
      · obtain ⟨hd, he⟩ := hmiss a hb ha hmine
        exact ⟨_, _, hd, he, by simp [hp, psWFK]⟩
    · obtain ⟨hd, he⟩ := hbad hb
      exact ⟨_, _, hd, he, by simp [hp, psWFK]⟩

/-- Settles O14: the step runs the row on the state without the byte, the row keeps that RXQ, and it ends in WFH. -/
theorem endingByteConsumed : Obligations.EndingByteConsumed := by
  intro s b q i hn hm hq hd hi
  obtain ⟨t, ht⟩ := exec_of_decode (s := { s with rxq := q }) hm hd
  have hstep : step s = .next t := by rw [step_of_polling hn hm, pollStep_of_byte hq hd, ht]
  exact ⟨t, hstep, exec_endingRow_ps ht hi, exec_receiveRow_rxq ht (not_isRequest_of_decode hd)⟩

/-- Settles O15: the iteration is the run of one row, and of the receive rows RX_CSUM_OK alone leaves the POLL. -/
theorem pollLoop : Obligations.PollLoop := by
  refine ⟨fun s => exec_poll_of_idle, ?_, ?_⟩
  · intro s hn hm hq
    exact (step_of_polling hn hm).trans (pollStep_of_empty hq)
  · intro s b q i t hn hm hq hd hstep
    rw [step_of_polling hn hm, pollStep_of_byte hq hd] at hstep
    have hrx := not_isRequest_of_decode hd
    refine ⟨exec_receiveRow_rxq hstep hrx, ?_⟩
    split_ifs with hi
    · subst hi
      obtain rfl := exec_rxCsumOk_next hstep
      exact ⟨rfl, rfl, List.append_assoc _ _ _⟩
    · have hne : ∀ b', i ≠ .rxCsumOk b' := by
        rintro b' rfl
        exact hi (csumOk_byte_of_decode hd ▸ rfl)
      obtain ⟨-, hmode, hreq, hresp⟩ := parserOnly_ports (exec_receiveRow_parserOnly hstep hrx hne)
      exact ⟨hmode.trans hm, hreq, hresp⟩

/-- Settles O16: the response and the next POLL write only ports, windows and mode. -/
theorem notReadyKeepsParser : Obligations.NotReadyKeepsParser := by
  intro s hn hm hq
  have hstep := (step_of_polling hn hm).trans (pollStep_of_empty hq)
  exact ⟨_, _, hstep, rfl, exec_poll_of_idle rfl, rfl, rfl, rfl, rfl, rfl, rfl, rfl, rfl⟩

end Sys2Proof.Proofs
end

section
/-! PROOFS. The payload accesses of the host: the six pops (R130 to R137) and the six pushes (R140 to R147). Each
family is proved once for its shared operation, over every width; an instruction only names its operation. -/

namespace Sys2Proof.Machine

/-! ### The buffers -/

theorem Memory.readBytes_cons {m : Memory} {i n : Nat} {b : Byte} {l : List Byte} (hb : m.read i = some b)
    (hl : m.readBytes (i + 1) n = some l) : m.readBytes i (n + 1) = some (b :: l) := by
  simp only [Memory.readBytes, hb, hl]

/-- Every byte after a multi-byte write (R51): a new one inside it, the old one outside. -/
theorem Memory.read_writeBytes (m : Memory) (i j : Nat) (l : List Byte) :
    (m.writeBytes i l).read j = if i ≤ j ∧ j < i + l.length then l[j - i]? else m.read j := by
  split_ifs with h
  · obtain ⟨k, rfl⟩ := Nat.exists_eq_add_of_le h.1
    rw [Memory.read_writeBytes_inside _ _ _ _ (by omega), Nat.add_sub_cancel_left]
  · exact Memory.read_writeBytes_outside _ _ _ _ (by omega)

/-! ### The contract checks (R137, R147, R204) -/

theorem popCheck_of_windowClosed {s : State} (w : Nat) (h : s.rxwin = false) :
    popCheck s w = some .popOutsideWindow := if_pos h

theorem popCheck_of_pastSize {s : State} {w : Nat} (hwin : s.rxwin = true)
    (h : s.accSize.toNat < s.rdCur.toNat + w) : popCheck s w = some .popPastSize := by
  simp [popCheck, hwin, h]

theorem pushCheck_of_windowClosed {s : State} (w : Nat) (h : s.txwin = false) :
    pushCheck s w = some .pushOutsideWindow := if_pos h

theorem pushCheck_of_overflow {s : State} {w : Nat} (hwin : s.txwin = true) (h : 15 < s.txCur.toNat + w) :
    pushCheck s w = some .pushOverflow := by
  simp [pushCheck, hwin, h]

/-! ### The value of a pop (R130) -/

/-- Sign extension to the word's own width is the identity (R136). -/
theorem extend32_word (signed : Bool) (v : Word32) : extend32 signed v = v := by
  cases signed
  · exact BitVec.setWidth_eq v
  · exact BitVec.signExtend_eq v

section
variable {s : State} (signed : Bool)

theorem State.popValue_of_readBytes (w : Width) {l : List Byte}
    (h : s.rxbuf.readBytes s.rdCur.toNat w.bytes = some l) : s.popValue w signed = beValue w signed l := by
  simp only [State.popValue, h]

theorem State.popValue_w1 {b : Byte} (hb : s.rxbuf.read s.rdCur.toNat = some b) :
    s.popValue .w1 signed = some (extend32 signed b) :=
  State.popValue_of_readBytes signed .w1 (Memory.readBytes_cons hb rfl)

theorem State.popValue_w2 {b c : Byte} (hb : s.rxbuf.read s.rdCur.toNat = some b)
    (hc : s.rxbuf.read (s.rdCur.toNat + 1) = some c) :
    s.popValue .w2 signed = some (extend32 signed (b ++ c)) :=
  State.popValue_of_readBytes signed .w2 (Memory.readBytes_cons hb (Memory.readBytes_cons hc rfl))

theorem State.popValue_w4 {b c d e : Byte} (hb : s.rxbuf.read s.rdCur.toNat = some b)
    (hc : s.rxbuf.read (s.rdCur.toNat + 1) = some c) (hd : s.rxbuf.read (s.rdCur.toNat + 2) = some d)
    (he : s.rxbuf.read (s.rdCur.toNat + 3) = some e) :
    s.popValue .w4 signed = some (b ++ c ++ d ++ e) := by
  have hread : s.rxbuf.readBytes s.rdCur.toNat 4 = some [b, c, d, e] :=
    Memory.readBytes_cons hb (Memory.readBytes_cons hc (Memory.readBytes_cons hd (Memory.readBytes_cons he rfl)))
  exact (State.popValue_of_readBytes signed .w4 hread).trans (congrArg some (extend32_word signed _))

end

/-! ### The shared operations, one equation per case -/

section
variable {s : State} (hm : s.mode = .idle)
include hm

theorem pop_of_violation {w : Width} {r : Violation} (op : BitVec 4) (signed : Bool)
    (h : popCheck s w.bytes = some r) : pop op w signed s = .next (s.violate r) := by
  simp only [pop, whenIdle_of_idle _ hm, h]

theorem pop_of_value {w : Width} {signed : Bool} {v : Word32} (op : BitVec 4) (h : popCheck s w.bytes = none)
    (hv : s.popValue w signed = some v) :
    pop op w signed s =
      .next ({ s with rdCur := s.rdCur + BitVec.ofNat 4 w.bytes }.respond op (.value v)) := by
  simp only [pop, whenIdle_of_idle _ hm, h, hv]

theorem push_of_violation {w : Width} {r : Violation} (op : BitVec 4) (x : Word32)
    (h : pushCheck s w.bytes = some r) : push op w x s = .next (s.violate r) := by
  simp only [push, whenIdle_of_idle _ hm, h]

theorem push_of_fits {w : Width} (op : BitVec 4) (x : Word32) (h : pushCheck s w.bytes = none) :
    push op w x s =
      .next ({ s with
        txbuf := s.txbuf.writeBytes s.txCur.toNat (beBytes w x)
        txCur := s.txCur + BitVec.ofNat 4 w.bytes }.respond op .done) := by
  simp only [push, whenIdle_of_idle _ hm, h]

end

/-- An instruction that is a pop has the three cases of a pop, for any reading `value` of the bytes at the cursor
that agrees with the pop's own. -/
theorem popCases_of_pop {i : Instr} {op : BitVec 4} {w : Width} {signed : Bool} {value : State → Word32 → Prop}
    (hi : ∀ s, exec i s = pop op w signed s) (hvalue : ∀ s v, value s v → s.popValue w signed = some v) :
    Stated.popCases i op w.bytes value := by
  intro s hm
  rw [hi s]
  refine ⟨?_, ?_, ?_⟩
  · intro hwin
    exact pop_of_violation hm op signed (popCheck_of_windowClosed _ hwin)
  · intro hwin hpast
    exact pop_of_violation hm op signed (popCheck_of_pastSize hwin hpast)
  · intro hwin hfits v hv
    exact pop_of_value hm op (popCheck_none.2 ⟨hwin, hfits⟩) (hvalue s v hv)

/-- An instruction that is a push has the three cases of a push, the bytes appended being the low bytes of the
argument, the most significant first. -/
theorem pushCases_of_push {i : Instr} {op : BitVec 4} {w : Width} {x : Word32}
    (hi : ∀ s, exec i s = push op w x s) : Stated.pushCases i op w.bytes (beBytes w x) := by
  intro s hm
  rw [hi s]
  refine ⟨?_, ?_, ?_⟩
  · intro hwin
    exact push_of_violation hm op x (pushCheck_of_windowClosed _ hwin)
  · intro hwin hover
    exact push_of_violation hm op x (pushCheck_of_overflow hwin hover)
  · intro hwin hfits
    refine ⟨_, push_of_fits hm op x (pushCheck_none.2 ⟨hwin, hfits⟩), fun a => ?_⟩
    rw [Memory.read_writeBytes, beBytes_length]

end Sys2Proof.Machine

namespace Sys2Proof.Proofs

open Sys2Proof Sys2Proof.Machine

/-- Settles O21: both are the pop of width 1; the value is the extended byte at the cursor. -/
theorem popOneByte : Obligations.PopOneByte := by
  refine ⟨popCases_of_pop (w := .w1) (signed := false) (fun _ => rfl) ?_,
    popCases_of_pop (w := .w1) (signed := true) (fun _ => rfl) ?_⟩
  all_goals
    rintro s _ ⟨b, hb, rfl⟩
    exact State.popValue_w1 _ hb

/-- Settles O22: both are the pop of width 2; the value is the extended big-endian pair at the cursor. -/
theorem popTwoBytes : Obligations.PopTwoBytes := by
  refine ⟨popCases_of_pop (w := .w2) (signed := false) (fun _ => rfl) ?_,
    popCases_of_pop (w := .w2) (signed := true) (fun _ => rfl) ?_⟩
  all_goals
    rintro s _ ⟨b, c, hb, hc, rfl⟩
    exact State.popValue_w2 _ hb hc

/-- Settles O23: both are the pop of width 4; extending a word to 32 bits changes nothing, so the values agree. -/
theorem popFourBytes : Obligations.PopFourBytes := by
  refine ⟨popCases_of_pop (w := .w4) (signed := false) (fun _ => rfl) ?_,
    popCases_of_pop (w := .w4) (signed := true) (fun _ => rfl) ?_⟩
  all_goals
    rintro s _ ⟨b, c, d, e, hb, hc, hd, he, rfl⟩
    exact State.popValue_w4 _ hb hc hd he

/-- Settles O24: both are the push of width 1. -/
theorem pushOneByte : Obligations.PushOneByte := fun _ =>
  ⟨pushCases_of_push (w := .w1) fun _ => rfl, pushCases_of_push (w := .w1) fun _ => rfl⟩

/-- Settles O25: both are the push of width 2. -/
theorem pushTwoBytes : Obligations.PushTwoBytes := fun _ =>
  ⟨pushCases_of_push (w := .w2) fun _ => rfl, pushCases_of_push (w := .w2) fun _ => rfl⟩

/-- Settles O26: both are the push of width 4. -/
theorem pushFourBytes : Obligations.PushFourBytes := fun _ =>
  ⟨pushCases_of_push (w := .w4) fun _ => rfl, pushCases_of_push (w := .w4) fun _ => rfl⟩

end Sys2Proof.Proofs
end

section
/-! PROOFS. The start of an ACK (R160, R161) and the reply frame it sends (R163 to R165). -/

namespace Sys2Proof.Machine

/-! ### The start of an ACK (R161) -/

theorem exec_ack (s : State) : exec .ack s = execAck s := rfl

theorem ackCheck_of_windowClosed {s : State} (h : s.txwin = false) : ackCheck s = some .ackOutsideWindow :=
  if_pos h

theorem ackCheck_none {s : State} : ackCheck s = none ↔ s.txwin = true := by
  cases h : s.txwin <;> simp [ackCheck, h]

section
variable {s : State} (hm : s.mode = .idle)
include hm

theorem execAck_of_violation {r : Violation} (h : ackCheck s = some r) : execAck s = .next (s.violate r) := by
  simp only [execAck, whenIdle_of_idle _ hm, h]

theorem execAck_of_windowOpen (h : ackCheck s = none) :
    execAck s = .next ({ s with txwin := false, txEn := true, mode := .ackPre }.emit .txEnRise) := by
  simp only [execAck, whenIdle_of_idle _ hm, h]

end

/-! ### The pushed bytes (R164) -/

/-- A list that the buffer holds from index `i` on is what a multi-byte read there returns. -/
theorem Memory.readBytes_of_read {m : Memory} {l : List Byte} : ∀ {i : Nat},
    (∀ k, k < l.length → m.read (i + k) = l[k]?) → m.readBytes i l.length = some l := by
  induction l with
  | nil => intro i _; rfl
  | cons b l ih =>
    intro i h
    have hhead : m.read i = some b := h 0 (Nat.succ_pos _)
    have htail : ∀ k, k < l.length → m.read (i + 1 + k) = l[k]? := by
      intro k hk
      rw [Nat.add_assoc, Nat.add_comm 1 k]
      exact h (k + 1) (Nat.succ_lt_succ hk)
    exact Memory.readBytes_cons hhead (ih htail)

/-- The size byte counts the pushed bytes: their number is `tx_cur` (R30). -/
theorem declaredSize_of_length {d : List Byte} {n : Nibble} (h : d.length = n.toNat) : declaredSize d = n := by
  rw [declaredSize, h, BitVec.ofNat_toNat, BitVec.setWidth_eq]

/-! ### The reply frame (R163, R164) -/

/-- The checksum of a data reply starts from the header and the size byte. -/
theorem replyCsum_eq_foldl (d : List Byte) :
    replyCsum d = d.foldl (· + ·) (0x78#8 + encSize (declaredSize d)) := rfl

theorem State.replyFrame_of_empty {s : State} (h : s.txCur = 0#4) :
    s.replyFrame = some (ackNoData, noDataFrame s.cfg.noDataTrailer) := if_pos h

theorem State.replyFrame_of_data {s : State} {d : List Byte} (h : s.txCur ≠ 0#4)
    (hd : s.txbuf.readBytes 0 s.txCur.toNat = some d) : s.replyFrame = some (replyCsum d, dataFrame d) := by
  simp only [State.replyFrame, if_neg h, hd]

/-! ### The step of ACK_SEND (R165) -/

/-- The frame joins TXQ whole and in order, each byte with its event. -/
theorem ackSendStep_of_replyFrame {s : State} {ck : Byte} {f : List Byte} (h : s.replyFrame = some (ck, f)) :
    ackSendStep s =
      .next { s with
        txCsum := ck, mode := .ackFlush, txq := s.txq ++ f, txFlushed := false,
        trace := s.trace ++ f.map Event.txByte } := by
  simp only [ackSendStep, h, State.txWriteAll_eq f _ (State.replyFrame_ne_nil h)]

theorem step_of_ackSend {s : State} (h : Stated.engineNext s) (hm : s.mode = .ackSend) :
    step s = ackSendStep s := by
  rw [step_of_engineNext h, engineStep_ackSend h.2.1 hm]

end Sys2Proof.Machine

namespace Sys2Proof.Proofs

open Sys2Proof Sys2Proof.Machine

/-- Settles O28: the ACK check is the test of the push window. -/
theorem ackStart : Obligations.AckStart := by
  intro s hm
  rw [exec_ack]
  constructor
  · intro hwin
    exact execAck_of_windowOpen hm (ackCheck_none.2 hwin)
  · intro hwin
    exact execAck_of_violation hm (ackCheck_of_windowClosed hwin)

/-- Settles O29: ACK_SEND hands over the reply frame, which `tx_cur` and the pushed bytes fix. -/
theorem replyFrameSent : Obligations.ReplyFrameSent := by
  intro s hn hm
  rw [step_of_ackSend hn hm]
  constructor
  · rintro h0 f rfl
    exact ackSendStep_of_replyFrame (State.replyFrame_of_empty h0)
  · rintro hne d hlen hread ck f hck hf
    have hsize : declaredSize d = s.txCur := declaredSize_of_length hlen
    have hbytes : s.txbuf.readBytes 0 s.txCur.toNat = some d := by
      rw [← hlen]
      exact Memory.readBytes_of_read (by simpa using hread)
    obtain rfl : ck = replyCsum d := by rw [hck, replyCsum_eq_foldl, hsize, encSize]
    obtain rfl : f = dataFrame d := by rw [hf, dataFrame, hsize]; rfl
    exact ackSendStep_of_replyFrame (State.replyFrame_of_data hne hbytes)

end Sys2Proof.Proofs
end

section
/-! PROOFS. The decoder and the encoder undo each other (R80, R83, R100), and which request codes are refused (R85). -/

namespace Sys2Proof

/-! ### Requests (R83) -/

/-- The word of a request decodes to it: every code has one arm. -/
theorem decode_encode_request {c : RxCtx} {i : Instr} (hi : Stated.isRequest i) : decode c (encode i) = .ok i := by
  obtain ⟨op, x, hx⟩ := hi
  cases i
  case rxHdr | rxSkip | rxAddr | rxAddrBad | rxCmd | rxSize0 | rxSizeN | rxSizeBad | rxData | rxDataLast |
      rxCsumOk | rxCsumBad | rxAddrMiss => cases hx
  all_goals rfl

/-- The two codes that R83 leaves out, and after them its fourteen. -/
theorem code_cases : ∀ op : BitVec 4, op = 0x0#4 ∨ op = 0x9#4 ∨ op = opPoll ∨ op = opPopU8 ∨ op = opPopS8 ∨
    op = opPopU16 ∨ op = opPopS16 ∨ op = opPopU32 ∨ op = opPopS32 ∨ op = opAck ∨ op = opPushU8 ∨ op = opPushS8 ∨
    op = opPushU16 ∨ op = opPushS16 ∨ op = opPushU32 ∨ op = opPushS32 := by decide

/-- Every code but the reserved ones has an arm, and the arm gives the request of its word (R83, R85). -/
theorem decodeRequest_cases (op : BitVec 4) (x : Word32) :
    (∃ i, decodeRequest op x = .ok i ∧ i.wellFormed = true ∧ (∀ c, i.selectedBy c = true) ∧
      encode i = Stated.readBits (.request op x) ∧ op ≠ 0x0#4 ∧ op ≠ 0x9#4) ∨
    (decodeRequest op x = .error .reservedRequest ∧ (op = 0x0#4 ∨ op = 0x9#4)) := by
  rcases code_cases op with rfl | rfl | rfl | rfl | rfl | rfl | rfl | rfl | rfl | rfl | rfl | rfl | rfl | rfl |
    rfl | rfl
  · exact .inr ⟨rfl, .inl rfl⟩
  · exact .inr ⟨rfl, .inr rfl⟩
  all_goals exact .inl ⟨_, rfl, rfl, fun _ => rfl, rfl, by decide, by decide⟩

/-- A request that decodes is the request of its word, and every argument is well-formed. -/
theorem decodeRequest_ok_encode {op : BitVec 4} {x : Word32} {i : Instr} (h : decodeRequest op x = .ok i) :
    i.wellFormed = true ∧ (∀ c, i.selectedBy c = true) ∧ encode i = Stated.readBits (.request op x) := by
  obtain ⟨j, hj, hw, hs, he, -⟩ | ⟨hj, -⟩ := decodeRequest_cases op x <;> cases hj.symm.trans h
  exact ⟨hw, hs, he⟩

/-- The codes that R83 leaves out are refused, as reserved (R85). -/
theorem decodeRequest_error_iff {op : BitVec 4} {x : Word32} {e : RefuseReason} :
    decodeRequest op x = .error e ↔ e = .reservedRequest ∧ (op = 0x0#4 ∨ op = 0x9#4) := by
  obtain ⟨j, hj, -, -, -, h0, h9⟩ | ⟨hj, hop⟩ := decodeRequest_cases op x
  · simp only [hj, reduceCtorEq, h0, h9, or_self, and_false]
  · simp only [hj, Except.error.injEq, hop, and_true, eq_comm]

/-! ### Receive words (R100) -/

theorem decode_encode_size {c : RxCtx} {n : Nibble} (hn : n ≠ 0#4) :
    decode c (.receive (rxWord psWFS (encSize n))) = .ok (.rxSizeN n) := by
  rw [decode_inWFS _ rfl, if_pos (sizeValid_encSize n), sizeLow_encSize, if_neg hn]

/-- The table in WFK, by the three tests of R111 to R113 in their order. -/
theorem decodeReceive_inWFK (c : RxCtx) (b : Byte) :
    decodeReceive c psWFK b =
      if b = c.csum then
        if c.myAddr.isSome then
          if c.myAddr = some c.candAddr then .ok (.rxCsumOk b) else .ok (.rxAddrMiss b)
        else .error .badConfig
      else .ok (.rxCsumBad b) := by
  by_cases hb : b = c.csum
  · rw [if_pos hb]
    cases ha : c.myAddr with
    | none => simp [decodeReceive, psWFH, psWFA, psWFC, psWFS, psWFD, psWFK, hb, ha]
    | some a =>
      rw [← decode_rxWord, decode_inWFK_match b rfl hb ha]
      simp only [Option.isSome_some, if_true, Option.some.injEq, eq_comm]
  · rw [if_neg hb, ← decode_rxWord, decode_inWFK_mismatch b rfl hb]

theorem decode_inWFK_of_selected {c : RxCtx} {b : Byte} (hb : b = c.csum) (ha : c.myAddr.isSome = true) :
    decode c (.receive (rxWord psWFK b)) =
      if c.myAddr = some c.candAddr then .ok (.rxCsumOk b) else .ok (.rxAddrMiss b) := by
  rw [decode_rxWord, decodeReceive_inWFK, if_pos hb, if_pos ha]

/-- The receive word of a row decodes to it where the registers select the row. -/
theorem decode_encode_receive {c : RxCtx} {i : Instr} (hi : ¬ Stated.isRequest i) (hw : i.wellFormed = true)
    (hs : i.selectedBy c = true) : decode c (encode i) = .ok i := by
  cases i
  case rxHdr | rxSize0 => rfl
  case rxCmd b => exact decode_inWFC b rfl
  case rxSkip b => exact (decode_inWFH b rfl).trans (if_neg (bne_iff_ne.1 hw))
  case rxAddr a =>
    refine (decode_inWFA _ rfl).trans ((if_pos (addrTagged_encAddr a)).trans ?_)
    rw [addrLow_encAddr]
  case rxAddrBad b =>
    exact (decode_inWFA b rfl).trans (if_neg (mt (addrTagged_iff_tag b).1 (bne_iff_ne.1 hw)))
  case rxSizeN n => exact decode_encode_size (bne_iff_ne.1 hw)
  case rxSizeBad b =>
    exact (decode_inWFS b rfl).trans (if_neg (mt (sizeValid_iff_complement b).1 (bne_iff_ne.1 hw)))
  case rxData b => exact (decode_inWFD b rfl).trans (if_pos (of_decide_eq_true hs))
  case rxDataLast b =>
    have hlast := beq_iff_eq.1 hs
    exact (decode_inWFD b rfl).trans ((if_neg hlast.not_lt).trans (if_pos hlast))
  case rxCsumOk b =>
    obtain ⟨hb, ha⟩ : b = c.csum ∧ c.myAddr = some c.candAddr := by simpa [Instr.selectedBy] using hs
    exact (decode_inWFK_of_selected hb (by rw [ha]; rfl)).trans (if_pos ha)
  case rxCsumBad b => exact decode_inWFK_mismatch b rfl (bne_iff_ne.1 hs)
  case rxAddrMiss b =>
    obtain ⟨⟨hb, ha⟩, hne⟩ : (b = c.csum ∧ c.myAddr.isSome = true) ∧ c.myAddr ≠ some c.candAddr := by
      simpa [Instr.selectedBy] using hs
    exact (decode_inWFK_of_selected hb ha).trans (if_neg hne)
  all_goals exact absurd ⟨_, _, rfl⟩ hi

/-- A row that the table chooses is well-formed, is selected, and has the word it was chosen for. -/
theorem decodeReceive_ok_encode {c : RxCtx} {p : BitVec 3} {b : Byte} {i : Instr}
    (h : decodeReceive c p b = .ok i) :
    i.wellFormed = true ∧ i.selectedBy c = true ∧ encode i = .receive (rxWord p b) := by
  rcases decodeReceive_ok h with ⟨rfl, rfl, rfl⟩ | ⟨rfl, hb, rfl⟩ | ⟨rfl, hb, rfl⟩ | ⟨rfl, hb, rfl⟩ | ⟨rfl, rfl⟩ |
    ⟨rfl, hv, h0, rfl⟩ | ⟨rfl, hv, h0, rfl⟩ | ⟨rfl, hv, rfl⟩ | ⟨rfl, hc, rfl⟩ | ⟨rfl, hc, rfl⟩ |
    ⟨rfl, rfl, ha, rfl⟩ | ⟨rfl, hb, rfl⟩ | ⟨rfl, rfl, hs, hne, rfl⟩
  case inl | inr.inr.inr.inr.inl => exact ⟨rfl, rfl, rfl⟩
  · exact ⟨bne_iff_ne.2 hb, rfl, rfl⟩
  · exact ⟨rfl, rfl, by rw [encode, encAddr_addrLow b hb]⟩
  · exact ⟨bne_iff_ne.2 (mt (addrTagged_iff_tag b).2 (by simp [hb])), rfl, rfl⟩
  · exact ⟨rfl, rfl, by rw [eq_of_sizeLow_eq_zero hv h0]; rfl⟩
  · exact ⟨bne_iff_ne.2 h0, rfl, by rw [encode, encSize_sizeLow b hv]⟩
  · exact ⟨bne_iff_ne.2 (mt (sizeValid_iff_complement b).2 (by simp [hv])), rfl, rfl⟩
  · exact ⟨rfl, decide_eq_true hc, rfl⟩
  · exact ⟨rfl, beq_iff_eq.2 hc, rfl⟩
  · exact ⟨rfl, by simp [Instr.selectedBy, ha], rfl⟩
  · exact ⟨rfl, bne_iff_ne.2 hb, rfl⟩
  · exact ⟨rfl, by simp [Instr.selectedBy, hs, hne], rfl⟩

end Sys2Proof

namespace Sys2Proof.Proofs

open Sys2Proof Sys2Proof.Machine

/-- Settles O1: a request by its code; a receive row by its parser state and the condition that selects it. -/
theorem encodedWordDecodes : Obligations.EncodedWordDecodes := by
  intro c i hw hs
  by_cases hi : Stated.isRequest i
  · exact decode_encode_request hi
  · exact decode_encode_receive hi hw hs

/-- Settles O2: a receive word is the word of its parser state and its byte, for which the table chose the row. -/
theorem decodedWordEncodes : Obligations.DecodedWordEncodes := by
  intro c w i h
  cases w with
  | request op x =>
    obtain ⟨hw, hs, he⟩ := decodeRequest_ok_encode h
    exact ⟨hw, hs c, he⟩
  | receive rw =>
    obtain ⟨hw, hs, he⟩ := decodeReceive_ok_encode h
    exact ⟨hw, hs, he.trans (by rw [rxWord_fields]; rfl)⟩

/-- Settles O3: none of these rows reads a register. -/
theorem specWordsDecode : Obligations.SpecWordsDecode := fun _ =>
  ⟨rfl, rfl, rfl, rfl, rfl, rfl, rfl, rfl, rfl, rfl, rfl, rfl⟩

/-- Settles O36: the codes without an arm are the two reserved ones, and an arm gives the request of its code. -/
theorem reservedCodesExactly : Obligations.ReservedCodesExactly := by
  intro c op x
  refine ⟨decodeRequest_error_iff.trans (and_iff_right rfl), ?_⟩
  intro h0 h9
  change ∃ i, decodeRequest op x = .ok i ∧ Stated.isRequest i
  cases h : decodeRequest op x with
  | ok i =>
    obtain ⟨y, hy⟩ := decodeRequest_ok h
    exact ⟨i, rfl, op, y, hy⟩
  | error e =>
    obtain ⟨-, hop⟩ := decodeRequest_error_iff.1 h
    exact absurd hop (not_or.2 ⟨h0, h9⟩)

end Sys2Proof.Proofs
end

section
/-! PROOFS. Everything a step can do, said once per operation: a request, a step of the engine, the move of another
agent, the reset input, and the step as a whole. -/

namespace Sys2Proof

/-! ### The families of instructions (R83) -/

def Instr.isPop (i : Instr) : Prop :=
  i = .popU8 ∨ i = .popS8 ∨ i = .popU16 ∨ i = .popS16 ∨ i = .popU32 ∨ i = .popS32

/-- A push of the argument `x`. -/
def Instr.isPush (i : Instr) (x : Word32) : Prop :=
  i = .pushU8 x ∨ i = .pushS8 x ∨ i = .pushU16 x ∨ i = .pushS16 x ∨ i = .pushU32 x ∨ i = .pushS32 x

theorem Instr.family (i : Instr) :
    i = .poll ∨ i = .ack ∨ i.isPop ∨ (∃ x, i.isPush x) ∨ ¬ Stated.isRequest i := by
  cases i
  case poll => exact .inl rfl
  case ack => exact .inr (.inl rfl)
  case popU8 | popS8 | popU16 | popS16 | popU32 | popS32 => simp [Instr.isPop]
  case pushU8 | pushS8 | pushU16 | pushS16 | pushU32 | pushS32 => simp [Instr.isPush]
  all_goals
    refine .inr (.inr (.inr (.inr ?_)))
    rintro ⟨op, x, hi⟩
    cases hi

end Sys2Proof

namespace Sys2Proof.Machine

/-- Every pop is the operation of R130 at the code of its word. -/
theorem exec_isPop {i : Instr} (hi : i.isPop) :
    ∃ op w signed, encode i = .request op 0 ∧ ∀ s, exec i s = pop op w signed s := by
  rcases hi with rfl | rfl | rfl | rfl | rfl | rfl <;> exact ⟨_, _, _, rfl, fun _ => rfl⟩

/-- Every push is the operation of R140 at the code of its word. -/
theorem exec_isPush {i : Instr} {x : Word32} (hi : i.isPush x) :
    ∃ op w, encode i = .request op x ∧ ∀ s, exec i s = push op w x s := by
  rcases hi with rfl | rfl | rfl | rfl | rfl | rfl <;> exact ⟨_, _, rfl, fun _ => rfl⟩

/-- What a request of code `op` can do to the state it runs in. -/
inductive RequestEffect (s : State) (op : BitVec 4) : State → Prop
  | poll (hop : op = opPoll) : RequestEffect s op { s with rxwin := false, txwin := false, mode := .polling }
  | ack (hop : op = opAck) (hwin : s.txwin = true) :
    RequestEffect s op ({ s with txwin := false, txEn := true, mode := .ackPre }.emit .txEnRise)
  | pop (w : Width) (v : Word32) (hcheck : popCheck s w.bytes = none) :
    RequestEffect s op ({ s with rdCur := s.rdCur + BitVec.ofNat 4 w.bytes }.respond op (.value v))
  | push (w : Width) (x : Word32) (hcheck : pushCheck s w.bytes = none) :
    RequestEffect s op ({ s with
      txbuf := s.txbuf.writeBytes s.txCur.toNat (beBytes w x)
      txCur := s.txCur + BitVec.ofNat 4 w.bytes }.respond op .done)
  | violation (r : Violation) : RequestEffect s op (s.violate r)

/-- Everything an ACK can do when it answers a next state (R161). -/
theorem execAck_next {s t : State} (h : execAck s = .next t) :
    s.mode = .idle ∧
      ((∃ r, t = s.violate r) ∨
       (s.txwin = true ∧ t = { s with txwin := false, txEn := true, mode := .ackPre }.emit .txEnRise)) := by
  obtain ⟨hm, h⟩ := whenIdle_next h
  refine ⟨hm, ?_⟩
  split at h <;> cases h
  next r _ => exact .inl ⟨r, rfl⟩
  next hcheck => exact .inr ⟨ackCheck_none.1 hcheck, rfl⟩

/-- A request that answers a next state ran in IDLE, with one of the effects. -/
theorem exec_request_effect {i : Instr} {op : BitVec 4} {x : Word32} {s t : State}
    (hi : encode i = .request op x) (h : exec i s = .next t) : s.mode = .idle ∧ RequestEffect s op t := by
  rcases i.family with rfl | rfl | hpop | ⟨y, hpush⟩ | hrow
  · obtain ⟨hm, ht⟩ := whenIdle_next h
    cases ht; cases hi
    exact ⟨hm, .poll rfl⟩
  · cases hi
    obtain ⟨hm, ⟨r, rfl⟩ | ⟨hwin, rfl⟩⟩ := execAck_next h
    · exact ⟨hm, .violation r⟩
    · exact ⟨hm, .ack rfl hwin⟩
  · obtain ⟨op', w, signed, hop, he⟩ := exec_isPop hpop
    cases hop.symm.trans hi
    obtain ⟨hm, ⟨r, -, rfl⟩ | ⟨hcheck, v, -, rfl⟩⟩ := pop_next ((he s).symm.trans h)
    · exact ⟨hm, .violation r⟩
    · exact ⟨hm, .pop w v hcheck⟩
  · obtain ⟨op', w, hop, he⟩ := exec_isPush hpush
    cases hop.symm.trans hi
    obtain ⟨hm, ⟨r, -, rfl⟩ | ⟨hcheck, rfl⟩⟩ := push_next ((he s).symm.trans h)
    · exact ⟨hm, .violation r⟩
    · exact ⟨hm, .push w x hcheck⟩
  · exact absurd ⟨_, _, hi⟩ hrow

/-! ### The receive rows (R101 to R113) -/

/-- What the row chosen for the byte `b` can do to the state it runs in. -/
inductive RowEffect (s : State) (b : Byte) : State → Prop
  | skip (hp : s.ps = psWFH) (hb : b ≠ hdrCmd) : RowEffect s b { s with csum := b }
  | header (hp : s.ps = psWFH) (hb : b = hdrCmd) : RowEffect s b { s with csum := hdrCmd, ps := psWFA }
  | address (hp : s.ps = psWFA) (hb : addrTagged b = true) :
    RowEffect s b { s with csum := s.csum + b, candAddr := addrLow b, ps := psWFC }
  | addressBad (hp : s.ps = psWFA) (hb : addrTagged b = false) :
    RowEffect s b ({ s with csum := s.csum + b, candAddr := addrLow b }.discard .addrTag)
  | command (hp : s.ps = psWFC) : RowEffect s b { s with csum := s.csum + b, cmdReg := b, ps := psWFS }
  | sizeZero (hp : s.ps = psWFS) (hb : b = encSize 0#4) :
    RowEffect s b { s with csum := s.csum + b, sizeReg := 0#4, ps := psWFK }
  | size (hp : s.ps = psWFS) (hv : sizeValid b = true) (h0 : sizeLow b ≠ 0#4) :
    RowEffect s b { s with csum := s.csum + b, sizeReg := sizeLow b, dcount := 0#4, ps := psWFD }
  | sizeBad (hp : s.ps = psWFS) (hv : sizeValid b = false) :
    RowEffect s b ({ s with csum := s.csum + b, sizeReg := sizeLow b }.discard .sizeNibble)
  | data (hp : s.ps = psWFD) (hc : s.dcount.toNat + 1 < s.sizeReg.toNat) : RowEffect s b (s.storeData b)
  | dataLast (hp : s.ps = psWFD) (hc : s.dcount.toNat + 1 = s.sizeReg.toNat) :
    RowEffect s b { s.storeData b with ps := psWFK }
  | accepted (hp : s.ps = psWFK) (hb : b = s.csum) (ha : s.cfg.myAddr = some s.candAddr) :
    RowEffect s b (s.accept.respond opPoll (.ready s.cmdReg s.sizeReg))
  | checksumBad (hp : s.ps = psWFK) (hb : b ≠ s.csum) : RowEffect s b (s.discard .checksum)
  | addressMiss (hp : s.ps = psWFK) (hb : b = s.csum) (ha : s.cfg.myAddr ≠ some s.candAddr) :
    RowEffect s b (s.discard .address)

/-- The row that the table chooses has the effect of its parser state and its byte. -/
theorem exec_row_effect {s t : State} {b : Byte} {i : Instr} (hd : decodeReceive s.rxCtx s.ps b = .ok i)
    (h : exec i s = .next t) : RowEffect s b t := by
  rcases decodeReceive_ok hd with ⟨hp, hb, rfl⟩ | ⟨hp, hb, rfl⟩ | ⟨hp, hb, rfl⟩ | ⟨hp, hb, rfl⟩ | ⟨hp, rfl⟩ |
    ⟨hp, hv, h0, rfl⟩ | ⟨hp, hv, h0, rfl⟩ | ⟨hp, hv, rfl⟩ | ⟨hp, hc, rfl⟩ | ⟨hp, hc, rfl⟩ | ⟨hp, hb, ha, rfl⟩ |
    ⟨hp, hb, rfl⟩ | ⟨hp, hb, -, ha, rfl⟩ <;> obtain ⟨-, -, -, rfl⟩ := onRow_next h
  · exact .header hp hb
  · exact .skip hp hb
  · rw [encAddr_addrLow b hb]; exact .address hp hb
  · exact .addressBad hp hb
  · exact .command hp
  · obtain rfl : b = encSize 0#4 := eq_of_sizeLow_eq_zero hv h0
    exact .sizeZero hp rfl
  · rw [encSize_sizeLow b hv]; exact .size hp hv h0
  · exact .sizeBad hp hv
  · exact .data hp hc
  · exact .dataLast hp hc
  · exact .accepted hp hb ha
  · exact .checksumBad hp hb
  · exact .addressMiss hp hb ha

/-! ### The engine -/

/-- What a step of the engine can do: under reset nothing; in IDLE the request on the port; in a POLL one byte; in
an ACK one phase. -/
inductive EngineEffect (s : State) : State → Prop
  | held (hr : s.rst = true) : EngineEffect s s
  | waits (hr : s.rst = false) (hm : s.mode = .idle) (hq : s.req = none) : EngineEffect s s
  | reserved (r : Request) (hr : s.rst = false) (hm : s.mode = .idle) (hq : s.req = some r)
    (hop : r.op = 0x0#4 ∨ r.op = 0x9#4) : EngineEffect s (s.refuse .reservedRequest)
  | request (r : Request) {t : State} (hr : s.rst = false) (hm : s.mode = .idle) (hq : s.req = some r)
    (h : RequestEffect s r.op t) : EngineEffect s t
  | notReady (hr : s.rst = false) (hm : s.mode = .polling) (hq : s.rxq = []) :
    EngineEffect s ({ s with mode := .idle }.respond opPoll .notReady)
  | noRow {b : Byte} {q : List Byte} {e : RefuseReason} (hr : s.rst = false) (hm : s.mode = .polling)
    (hq : s.rxq = b :: q) (hd : decodeReceive s.rxCtx s.ps b = .error e) : EngineEffect s (s.refuse e)
  | row (b : Byte) (q : List Byte) {t : State} (hr : s.rst = false) (hm : s.mode = .polling)
    (hq : s.rxq = b :: q) (h : RowEffect { s with rxq := q } b t) : EngineEffect s t
  | settled (hr : s.rst = false) (hm : s.mode = .ackPre) : EngineEffect s { s with mode := .ackSend }
  | sent {ck : Byte} {f : List Byte} (hr : s.rst = false) (hm : s.mode = .ackSend) (hf : f ≠ []) :
    EngineEffect s { s with
      txCsum := ck, mode := .ackFlush, txq := s.txq ++ f, txFlushed := false,
      trace := s.trace ++ f.map Event.txByte }
  | awaits (hr : s.rst = false) (hm : s.mode = .ackFlush) (hf : s.txFlushed = false) : EngineEffect s s
  | flushed (hr : s.rst = false) (hm : s.mode = .ackFlush) (hf : s.txFlushed = true) :
    EngineEffect s { s with mode := .ackPost }
  | ended (hr : s.rst = false) (hm : s.mode = .ackPost) :
    EngineEffect s (({ s with txEn := false, mode := .idle }.emit .txEnFall).respond opAck .done)

section
variable {s t : State} (hr : s.rst = false)
include hr

theorem idleStep_effect (hm : s.mode = .idle) (h : idleStep s = .next t) : EngineEffect s t := by
  unfold idleStep at h
  split at h
  next hq => cases h; exact .waits hr hm hq
  next r hq =>
    split at h
    next i hd =>
      obtain ⟨y, hi⟩ := decodeRequest_ok hd
      exact .request r hr hm hq (exec_request_effect hi h).2
    next e hd =>
      obtain ⟨rfl, hop⟩ := decodeRequest_error_iff.1 hd
      cases h
      exact .reserved r hr hm hq hop

theorem pollStep_effect (hm : s.mode = .polling) (h : pollStep s = .next t) : EngineEffect s t := by
  unfold pollStep at h
  simp only [decode_rxWord] at h
  split at h
  next hq => cases h; exact .notReady hr hm hq
  next b q hq =>
    split at h
    next i hd => exact .row b q hr hm hq (exec_row_effect (s := { s with rxq := q }) hd h)
    next e hd => cases h; exact .noRow hr hm hq hd

theorem ackSendStep_effect (hm : s.mode = .ackSend) (h : ackSendStep s = .next t) : EngineEffect s t := by
  cases hf : s.replyFrame with
  | none => simp [ackSendStep, hf] at h
  | some p =>
    rw [ackSendStep_of_replyFrame hf] at h
    cases h
    exact .sent hr hm (State.replyFrame_ne_nil hf)

theorem ackFlushStep_effect (hm : s.mode = .ackFlush) (h : ackFlushStep s = .next t) : EngineEffect s t := by
  unfold ackFlushStep at h
  split at h <;> cases h
  next hf => exact .flushed hr hm hf
  next hf => exact .awaits hr hm (Bool.eq_false_iff.2 hf)

end

theorem engineStep_effect {s t : State} (h : engineStep s = .next t) : EngineEffect s t := by
  cases hr : s.rst
  case true => rw [engineStep_held hr] at h; cases h; exact .held hr
  case false =>
    cases hm : s.mode
    case idle => exact idleStep_effect hr hm (engineStep_idle hr hm ▸ h)
    case polling => exact pollStep_effect hr hm (engineStep_polling hr hm ▸ h)
    case ackPre => rw [engineStep_ackPre hr hm] at h; cases h; exact .settled hr hm
    case ackSend => exact ackSendStep_effect hr hm (engineStep_ackSend hr hm ▸ h)
    case ackFlush => exact ackFlushStep_effect hr hm (engineStep_ackFlush hr hm ▸ h)
    case ackPost => rw [engineStep_ackPost hr hm] at h; cases h; exact .ended hr hm

/-! ### The other agents -/

theorem hostReady_iff {s : State} : s.hostReady = true ↔ s.req = none ∧ s.mode = .idle ∧ s.rst = false := by
  simp [State.hostReady, and_assoc]

/-- What the turn `n` of an agent other than the engine and the reset input can do. -/
inductive AgentEffect (n : Turn) (s : State) : State → Prop
  | noMove : AgentEffect n s s
  | host (q : Option Request) (p : Option Response) (l : List Request) (hs : s.hostReady = true) :
    AgentEffect n s { s with req := q, resp := p, hostq := l }
  | rx (b : Byte) (hn : n = .rx b) : AgentEffect n s { s with rxq := s.rxq ++ [b] }
  | txSend (hn : n = .txSend) : AgentEffect n s { s with txq := s.txq.tail }
  | flushed (hn : n = .flushed) : AgentEffect n s { s with txq := [], txFlushed := true }
  | config (c : ConfigInputs) (hr : s.rst = true) :
    AgentEffect n s { s with cfg := { s.cfg with toConfigInputs := c } }
  | badConfig (hr : s.rst = false) : AgentEffect n s (s.refuse .badConfig)

theorem hostTurn_effect (n : Turn) (r : Request) (s : State) : AgentEffect n s (hostTurn r s) := by
  unfold hostTurn
  split
  next hs => exact .host (some r) none s.hostq hs
  next => exact .noMove

theorem dispatchTurn_effect (n : Turn) (v : Sensors) (s : State) : AgentEffect n s (dispatchTurn v s) := by
  unfold dispatchTurn
  split
  next hs =>
    split
    next r rest _ => exact .host (some r) none rest hs
    next =>
      split
      next cmd size _ => exact .host s.req none _ hs
      next => exact .host (some ⟨opPoll, 0⟩) none s.hostq hs
  next => exact .noMove

theorem configTurn_effect (n : Turn) (c : ConfigInputs) (s : State) : AgentEffect n s (configTurn c s) := by
  unfold configTurn
  split_ifs with hr hc
  · exact .config c hr
  · exact .noMove
  · exact .badConfig (Bool.eq_false_iff.2 hr)

theorem agentMove_effect {n : Turn} {s t : State} (hn : n ≠ .engine) (hr : ∀ level, n ≠ .rst level)
    (h : agentMove n s = .next t) : AgentEffect n s t := by
  cases n
  case engine => exact absurd rfl hn
  case rst level => exact absurd rfl (hr level)
  all_goals cases h
  case host r => exact hostTurn_effect _ r s
  case dispatch v => exact dispatchTurn_effect _ v s
  case rx b => exact .rx b rfl
  case txSend => exact .txSend rfl
  case flushed => exact .flushed rfl
  case config c => exact configTurn_effect _ c s

/-! ### The reset input -/

/-- What a level of the reset input can do (R230, R203). -/
inductive ResetEffect (level : Bool) (s : State) : State → Prop
  | same (hl : level = s.rst) : ResetEffect level s s
  | asserted (hl : level = true) (hr : s.rst = false) : ResetEffect level s s.applyReset
  | released (hl : level = false) (hr : s.rst = true) :
    ResetEffect level s
      { s with rst := false, refused := if s.cfg.addressLegal then s.refused else some .badConfig }

theorem rstTurn_effect (level : Bool) (s : State) : ResetEffect level s (rstTurn level s) := by
  unfold rstTurn
  cases level <;> cases hr : s.rst
  · exact .same hr.symm
  · exact .released rfl hr
  · exact .asserted rfl hr
  · exact .same hr.symm

/-! ### The step -/

/-- What a step can do: the move of the next turn, on the state with the turn taken off the schedule. -/
inductive StepEffect (s : State) : State → Prop
  | reset (level : Bool) {t : State} (hn : s.nextTurn = .rst level) (h : ResetEffect level s.popTurn t) :
    StepEffect s t
  | engine {t : State} (hn : s.nextTurn = .engine) (hc : s.clean) (h : EngineEffect s.popTurn t) : StepEffect s t
  | agent {t : State} (hn : s.nextTurn ≠ .engine) (hr : ∀ level, s.nextTurn ≠ .rst level) (hc : s.clean)
    (h : AgentEffect s.nextTurn s.popTurn t) : StepEffect s t

theorem step_effect {s t : State} (h : step s = .next t) : StepEffect s t := by
  obtain ⟨level, hn, rfl⟩ | ⟨hr, hc, h⟩ := takeTurn_next h
  · exact .reset level hn (rstTurn_effect level _)
  · by_cases hn : s.nextTurn = .engine
    · rw [hn] at h
      exact .engine hn hc (engineStep_effect h)
    · exact .agent hn hr hc (agentMove_effect hn hr h)

end Sys2Proof.Machine
end

section
/-! PROOFS. The invariant of R41, R42 and R172: it holds at reset, and every effect of every agent keeps it. -/

namespace Sys2Proof.Machine

theorem Memory.filled_zero (m : Memory) : m.filled 0 := fun _ hi => absurd hi (Nat.not_lt_zero _)

theorem Width.bytes_lt (w : Width) : w.bytes < 16 := by cases w <;> decide

/-- A cursor that stays within 15 does not wrap (R137, R147). -/
theorem cursor_toNat {k : Nibble} (w : Width) (h : k.toNat + w.bytes ≤ 15) :
    (k + BitVec.ofNat 4 w.bytes).toNat = k.toNat + w.bytes := by
  have hw : w.bytes < 16 := w.bytes_lt
  rw [BitVec.toNat_add, BitVec.toNat_ofNat]
  omega

/-- The data count does not wrap below a size (R109). -/
theorem dcount_succ_toNat {k n : Nibble} (h : k.toNat + 1 ≤ n.toNat) : (k + 1#4).toNat = k.toNat + 1 := by
  have hn : n.toNat < 16 := n.isLt
  rw [BitVec.toNat_add, BitVec.toNat_ofNat]
  omega

/-! ### The receive rows -/

section
variable {s : State} (h : Consistent s) (hr : s.rst = false)
include h

theorem Consistent.popTurn : Consistent s.popTurn := { h with }

theorem Consistent.dropByte (q : List Byte) : Consistent { s with rxq := q } := { h with }

theorem Consistent.windowClosed (hm : s.mode = .polling) : s.rxwin = false :=
  Bool.eq_false_iff.2 fun hwin => h.receiveWindow hwin hm

/-- A data byte is the next one to be stored. -/
theorem Consistent.storedNext (hp : s.ps = psWFD) (b : Byte) :
    (s.rxbuf.write s.dcount.toNat b).wf = true ∧ (s.rxbuf.write s.dcount.toNat b).filled (s.dcount.toNat + 1) :=
  ⟨Memory.wf_write _ _ _ h.rxbufWf s.dcount.isLt, Memory.filled_write_next b (h.dataStored hp)⟩

include hr

/-- In a POLL the parser and `rxbuf` may change as long as what R41 and R42 say of WFD and WFK is kept. -/
theorem Consistent.parser (hm : s.mode = .polling) {t : State} (ht : Stated.parserOnly s t)
    (hp : t.ps.toNat ≤ 5) (hwf : t.rxbuf.wf = true)
    (hdata : t.ps = psWFD → t.dcount.toNat < t.sizeReg.toNat ∧ t.rxbuf.filled t.dcount.toNat)
    (hpacket : t.ps = psWFK → t.rxbuf.filled t.sizeReg.toNat) : Consistent t := by
  rw [Stated.parserOnly] at ht
  rw [ht]
  exact { h with
    rxbufWf := hwf
    parserState := hp
    dataCount := fun hd => (hdata hd).1
    dataStored := fun hd => (hdata hd).2
    packetStored := hpacket
    payloadStored := fun hwin => absurd hwin (Bool.eq_false_iff.1 (h.windowClosed hm))
    resetHeld := fun hrst => absurd hrst (Bool.eq_false_iff.1 hr) }

/-- The parser states before the data bytes promise nothing of `rxbuf`. -/
theorem Consistent.parserBeforeData (hm : s.mode = .polling) {t : State} (ht : Stated.parserOnly s t)
    (hbuf : t.rxbuf = s.rxbuf) (hp : t.ps.toNat ≤ 3) : Consistent t := by
  refine h.parser hr hm ht (by omega) (by rw [hbuf]; exact h.rxbufWf) ?_ ?_
  all_goals
    intro hps
    rw [hps] at hp
    exact absurd hp (by decide)

theorem Consistent.rxData (hm : s.mode = .polling) (hp : s.ps = psWFD) (b : Byte)
    (hc : s.dcount.toNat + 1 < s.sizeReg.toNat) : Consistent (s.storeData b) := by
  obtain ⟨hwf, hfilled⟩ := h.storedNext hp b
  have hk := dcount_succ_toNat hc.le
  rw [← hk] at hc hfilled
  refine h.parser hr hm rfl h.parserState hwf (fun _ => ⟨hc, hfilled⟩) ?_
  intro hk'
  exact absurd (hp.symm.trans hk') (by decide)

theorem Consistent.rxDataLast (hm : s.mode = .polling) (hp : s.ps = psWFD) (b : Byte)
    (hc : s.dcount.toNat + 1 = s.sizeReg.toNat) : Consistent { s.storeData b with ps := psWFK } := by
  obtain ⟨hwf, hfilled⟩ := h.storedNext hp b
  rw [hc] at hfilled
  exact h.parser hr hm rfl (by decide : psWFK.toNat ≤ 5) hwf nofun fun _ => hfilled

/-- An acceptance opens both windows over the packet's data, with both cursors at 0 (R111). -/
theorem Consistent.accept (hm : s.mode = .polling) (hp : s.ps = psWFK) (op : BitVec 4) (x : Response) :
    Consistent (s.accept.respond op x) :=
  { h with
    parserState := (by decide : psWFH.toNat ≤ 5)
    dataCount := nofun
    dataStored := nofun
    packetStored := nofun
    readCursor := fun _ => Nat.zero_le _
    payloadStored := fun _ => h.packetStored hp
    pushedStored := Memory.filled_zero _
    receiveWindow := nofun
    pushWindow := fun _ => ⟨rfl, rfl⟩
    busDriven := by rw [State.respond_txEn, State.accept_txEn, h.busDriven, hm]; rfl
    pollRequest := nofun
    ackRequest := nofun
    postFlushed := nofun
    resetHeld := fun hrst => absurd hrst (Bool.eq_false_iff.1 hr) }

/-- The row of every byte keeps the invariant. -/
theorem Consistent.row {b : Byte} {t : State} (hm : s.mode = .polling) (he : RowEffect s b t) : Consistent t := by
  cases he with
  | skip hp hb => exact h.parserBeforeData hr hm rfl rfl (by rw [hp]; decide)
  | header | address | addressBad | command | sizeBad | checksumBad | addressMiss =>
    exact h.parserBeforeData hr hm rfl rfl (by simp only [State.discard_ps]; decide)
  | sizeZero hp hb =>
    exact h.parser hr hm rfl (by decide : psWFK.toNat ≤ 5) h.rxbufWf nofun fun _ => Memory.filled_zero _
  | size hp hv h0 =>
    refine h.parser hr hm rfl (by decide : psWFD.toNat ≤ 5) h.rxbufWf (fun _ => ⟨?_, Memory.filled_zero _⟩) nofun
    exact Nat.pos_of_ne_zero fun hn => h0 (BitVec.eq_of_toNat_eq hn)
  | data hp hc => exact h.rxData hr hm hp b hc
  | dataLast hp hc => exact h.rxDataLast hr hm hp b hc
  | accepted hp hb ha => exact h.accept hr hm hp _ _

/-! ### The engine -/

theorem Consistent.refuse (e : RefuseReason) : Consistent (s.refuse e) :=
  { h with
    resetHeld := fun hrst => absurd hrst (Bool.eq_false_iff.1 hr)
    configLegal := nofun }

/-- A request on the port of an IDLE engine keeps the invariant. -/
theorem Consistent.request {r : Request} {t : State} (hm : s.mode = .idle) (hq : s.req = some r)
    (he : RequestEffect s r.op t) : Consistent t := by
  have hreset : ∀ {P : Prop}, s.rst = true → P := fun hrst => absurd hrst (Bool.eq_false_iff.1 hr)
  have hbus : s.txEn = false := by rw [h.busDriven, hm]; rfl
  cases he with
  | poll hop => exact { h with
      readCursor := nofun
      payloadStored := nofun
      receiveWindow := nofun
      pushWindow := nofun
      busDriven := hbus
      pollRequest := fun _ => by rw [hq]; exact congrArg some hop
      ackRequest := nofun
      postFlushed := nofun
      resetHeld := hreset }
  | ack hop hwin => exact { h with
      receiveWindow := nofun
      pushWindow := nofun
      busDriven := rfl
      pollRequest := nofun
      ackRequest := fun _ => (congrArg (Option.map Request.op) hq).trans (congrArg some hop)
      postFlushed := nofun
      resetHeld := hreset }
  | pop w v hcheck =>
    obtain ⟨-, hfits⟩ := popCheck_none.1 hcheck
    have hsize : s.accSize.toNat < 16 := s.accSize.isLt
    exact { h with
      readCursor := fun _ => (cursor_toNat w (by omega)).trans_le hfits
      pollRequest := fun hm' => Mode.noConfusion (hm.symm.trans hm')
      ackRequest := fun hm' => by rw [State.respond_mode, hm] at hm'; cases hm'
      resetHeld := hreset }
  | push w x hcheck =>
    obtain ⟨-, hfits⟩ := pushCheck_none.1 hcheck
    have hfilled := Memory.filled_writeBytes (beBytes w x) h.pushedStored
    rw [beBytes_length, ← cursor_toNat w hfits] at hfilled
    exact { h with
      txbufWf := Memory.wf_writeBytes _ _ _ h.txbufWf (by rw [beBytes_length]; omega)
      pushedStored := hfilled
      pollRequest := fun hm' => Mode.noConfusion (hm.symm.trans hm')
      ackRequest := fun hm' => by rw [State.respond_mode, hm] at hm'; cases hm'
      resetHeld := hreset }
  | violation r => exact { h with resetHeld := hreset }

end

/-- The end of a POLL and the phases of an ACK move the engine on from a mode other than IDLE, in which the push
window is closed. -/
theorem Consistent.nextMode {s t : State} (h : Consistent s) (hr : s.rst = false) (hidle : s.mode ≠ .idle)
    (ht : t = { s with
      mode := t.mode, txEn := t.txEn, req := t.req, resp := t.resp, txq := t.txq, txFlushed := t.txFlushed,
      txCsum := t.txCsum, trace := t.trace })
    (hm : t.mode ≠ .polling) (hen : t.txEn = t.mode.isAck)
    (hack : t.mode.isAck = true → t.req.map Request.op = some opAck) (hfl : t.txFlushed = true → t.txq = [])
    (hpost : t.mode = .ackPost → t.txFlushed = true) : Consistent t := by
  rw [ht]
  exact { h with
    receiveWindow := fun _ => hm
    pushWindow := fun hwin => absurd (h.pushWindow hwin).2 hidle
    busDriven := hen
    pollRequest := fun hm' => absurd hm' hm
    ackRequest := hack
    flushedEmpty := hfl
    postFlushed := hpost
    resetHeld := fun hrst => absurd hrst (Bool.eq_false_iff.1 hr) }

theorem Consistent.engine {s t : State} (h : Consistent s) (he : EngineEffect s t) : Consistent t := by
  cases he with
  | held | waits | awaits => exact h
  | reserved r hr hm hq hop => exact h.refuse hr _
  | request r hr hm hq he => exact h.request hr hm hq he
  | noRow hr hm hq hd => exact h.refuse hr _
  | row b q hr hm hq he => exact (h.dropByte q).row hr hm he
  | notReady hr hm hq =>
    exact h.nextMode hr (by rw [hm]; decide) rfl nofun (by rw [h.busDriven, hm]; rfl) nofun h.flushedEmpty nofun
  | settled hr hm =>
    exact h.nextMode hr (by rw [hm]; decide) rfl nofun (by rw [h.busDriven, hm]; rfl)
      (fun _ => h.ackRequest (by rw [hm]; rfl)) h.flushedEmpty nofun
  | sent hr hm hf =>
    exact h.nextMode hr (by rw [hm]; decide) rfl nofun (by rw [h.busDriven, hm]; rfl)
      (fun _ => h.ackRequest (by rw [hm]; rfl)) nofun nofun
  | flushed hr hm hf =>
    exact h.nextMode hr (by rw [hm]; decide) rfl nofun (by rw [h.busDriven, hm]; rfl)
      (fun _ => h.ackRequest (by rw [hm]; rfl)) h.flushedEmpty fun _ => hf
  | ended hr hm => exact h.nextMode hr (by rw [hm]; decide) rfl nofun rfl nofun h.flushedEmpty nofun

/-! ### The other agents and the reset input -/

theorem Consistent.agent {n : Turn} {s t : State} (h : Consistent s) (he : AgentEffect n s t) : Consistent t := by
  cases he with
  | noMove => exact h
  | host q p l hs =>
    obtain ⟨-, hm, hr⟩ := hostReady_iff.1 hs
    exact { h with
      pollRequest := fun hm' => Mode.noConfusion (hm.symm.trans hm')
      ackRequest := fun hm' => by rw [hm] at hm'; cases hm'
      resetHeld := fun hrst => Bool.noConfusion (hr.symm.trans hrst) }
  | rx b => exact { h with }
  | txSend => exact { h with flushedEmpty := fun hf => by rw [h.flushedEmpty hf]; rfl }
  | flushed => exact { h with flushedEmpty := fun _ => rfl, postFlushed := fun _ => rfl }
  | config c hr => exact { h with configLegal := fun hrst => Bool.noConfusion (hr.symm.trans hrst) }
  | badConfig hr => exact h.refuse hr _

theorem Consistent.applyReset {s : State} (h : Consistent s) : Consistent s.applyReset where
  rxbufWf := rfl
  txbufWf := rfl
  parserState := (by decide : psWFH.toNat ≤ 5)
  dataCount := nofun
  dataStored := nofun
  packetStored := nofun
  readCursor := nofun
  payloadStored := nofun
  pushedStored := Memory.filled_zero _
  receiveWindow := nofun
  pushWindow := nofun
  busDriven := rfl
  pollRequest := nofun
  ackRequest := nofun
  flushedEmpty := h.flushedEmpty
  postFlushed := nofun
  resetHeld := fun _ => ⟨rfl, rfl, rfl, rfl, rfl, rfl, rfl, rfl, rfl, rfl⟩
  configLegal := nofun

theorem Consistent.reset {level : Bool} {s t : State} (h : Consistent s) (he : ResetEffect level s t) :
    Consistent t := by
  cases he with
  | same => exact h
  | asserted => exact h.applyReset
  | released hl hr =>
    refine { h with resetHeld := nofun, configLegal := ?_ }
    intro _ hnone
    by_contra hlegal
    rw [if_neg hlegal] at hnone
    cases hnone

theorem Consistent.of_step {s t : State} (h : Consistent s) (he : StepEffect s t) : Consistent t := by
  cases he with
  | reset level hn he => exact h.popTurn.reset he
  | engine hn hc he => exact h.popTurn.engine he
  | agent hn hr hc he => exact h.popTurn.agent he

end Sys2Proof.Machine

namespace Sys2Proof.Proofs

open Sys2Proof Sys2Proof.Machine

/-- Settles O49: nothing is stored, requested or driven, and the example address is legal. -/
theorem resetMeetsInvariant : Obligations.ResetMeetsInvariant where
  rxbufWf := rfl
  txbufWf := rfl
  parserState := by decide
  dataCount := nofun
  dataStored := nofun
  packetStored := nofun
  readCursor := nofun
  payloadStored := nofun
  pushedStored := Memory.filled_zero _
  receiveWindow := nofun
  pushWindow := nofun
  busDriven := rfl
  pollRequest := nofun
  ackRequest := nofun
  flushedEmpty := fun _ => rfl
  postFlushed := nofun
  resetHeld := nofun
  configLegal := fun _ _ => by decide

/-- Settles O50: each effect of each agent keeps the invariant. -/
theorem stepKeepsInvariant : Obligations.StepKeepsInvariant := fun _ _ h hstep => h.of_step (step_effect hstep)

end Sys2Proof.Proofs
end

section
/-! PROOFS. What a step leaves alone and how it ends a run: the frames of the instructions (R27 to R32, R56), the
queues (R38, R39), the configuration (R37), contract violations and recorded marks (R36, R202, R203). -/

namespace Sys2Proof.Machine

/-! ### What the effects leave unchanged, by field -/

section
variable {s t : State} {b : Byte} {op : BitVec 4}

theorem RowEffect.ports (he : RowEffect s b t) :
    t.rxq = s.rxq ∧ t.txq = s.txq ∧ t.txFlushed = s.txFlushed ∧ t.cfg = s.cfg ∧ t.txEn = s.txEn ∧
      t.cvFault = s.cvFault ∧ t.refused = s.refused ∧ t.txbuf = s.txbuf := by
  cases he <;> exact ⟨rfl, rfl, rfl, rfl, rfl, rfl, rfl, rfl⟩

theorem RequestEffect.ports (he : RequestEffect s op t) :
    t.rxq = s.rxq ∧ t.txq = s.txq ∧ t.txFlushed = s.txFlushed ∧ t.cfg = s.cfg ∧ t.refused = s.refused ∧
      t.rxbuf = s.rxbuf := by
  cases he <;> exact ⟨rfl, rfl, rfl, rfl, rfl, rfl⟩

theorem EngineEffect.cfg (he : EngineEffect s t) : t.cfg = s.cfg := by
  cases he with
  | request r hr hm hq he => obtain ⟨-, -, -, hcfg, -⟩ := he.ports; exact hcfg
  | row b q hr hm hq he => obtain ⟨-, -, -, hcfg, -⟩ := he.ports; exact hcfg
  | _ => rfl

/-- The engine takes from RXQ in a POLL only, one byte at a step (R60). -/
theorem EngineEffect.rxq (he : EngineEffect s t) :
    t.rxq = s.rxq ∨ (s.mode = .polling ∧ ∃ b, s.rxq = b :: t.rxq) := by
  cases he with
  | request r hr hm hq he => obtain ⟨hrxq, -⟩ := he.ports; exact .inl hrxq
  | row b q hr hm hq he =>
    obtain ⟨hrxq, -⟩ := he.ports
    exact .inr ⟨hm, b, hq.trans (congrArg _ hrxq.symm)⟩
  | _ => exact .inl rfl

/-- The engine appends to TXQ in ACK_SEND only (R165). -/
theorem EngineEffect.txq (he : EngineEffect s t) :
    (t.txq = s.txq ∧ t.txFlushed = s.txFlushed) ∨
    (∃ f, s.mode = .ackSend ∧ t.txq = s.txq ++ f ∧ f ≠ [] ∧ t.txFlushed = false ∧
      t.trace = s.trace ++ f.map Event.txByte) := by
  cases he with
  | request r hr hm hq he => obtain ⟨-, htxq, hfl, -⟩ := he.ports; exact .inl ⟨htxq, hfl⟩
  | row b q hr hm hq he => obtain ⟨-, htxq, hfl, -⟩ := he.ports; exact .inl ⟨htxq, hfl⟩
  | @sent ck f hr hm hf => exact .inr ⟨f, hm, rfl, hf, rfl, rfl⟩
  | _ => exact .inl ⟨rfl, rfl⟩

/-- Of the other agents only the RX transport changes RXQ. -/
theorem AgentEffect.rxq {n : Turn} (he : AgentEffect n s t) :
    t.rxq = s.rxq ∨ ∃ b, n = .rx b ∧ t.rxq = s.rxq ++ [b] := by
  cases he with
  | rx b hn => exact .inr ⟨b, hn, rfl⟩
  | _ => exact .inl rfl

/-- Of the other agents only the TX transport changes TXQ and TxFlushed. -/
theorem AgentEffect.txq {n : Turn} (he : AgentEffect n s t) :
    (t.txq = s.txq ∧ t.txFlushed = s.txFlushed) ∨
    (n = .txSend ∧ t.txq = s.txq.tail ∧ t.txFlushed = s.txFlushed) ∨
    (n = .flushed ∧ t.txq = [] ∧ t.txFlushed = true) := by
  cases he with
  | txSend hn => exact .inr (.inl ⟨hn, rfl, rfl⟩)
  | flushed hn => exact .inr (.inr ⟨hn, rfl, rfl⟩)
  | _ => exact .inl ⟨rfl, rfl⟩

/-- The configuration inputs matter under reset only, and carry no trailer (R37). -/
theorem AgentEffect.cfg {n : Turn} (he : AgentEffect n s t) :
    (s.rst = false → t.cfg = s.cfg) ∧ t.cfg.noDataTrailer = s.cfg.noDataTrailer := by
  cases he with
  | config c hr => exact ⟨fun hf => Bool.noConfusion (hf.symm.trans hr), rfl⟩
  | _ => exact ⟨fun _ => rfl, rfl⟩

/-- The reset input leaves the queues and the configuration (R230). -/
theorem ResetEffect.ports {level : Bool} (he : ResetEffect level s t) :
    t.rxq = s.rxq ∧ t.txq = s.txq ∧ t.txFlushed = s.txFlushed ∧ t.cfg = s.cfg := by
  cases he <;> exact ⟨rfl, rfl, rfl, rfl⟩

/-- Only the assertion of reset clears a mark (R36). -/
theorem ResetEffect.marks {level : Bool} (he : ResetEffect level s t) :
    (t.cvFault = s.cvFault ∨ t.rst = true ∧ t.cvFault = none) ∧
      (s.refused ≠ none → t.refused = none → t.rst = true) := by
  cases he with
  | same => exact ⟨.inl rfl, fun hs ht => absurd ht hs⟩
  | asserted => exact ⟨.inr ⟨rfl, rfl⟩, fun _ _ => rfl⟩
  | released hl hr =>
    refine ⟨.inl rfl, fun hs ht => ?_⟩
    dsimp only at ht
    split_ifs at ht
    exact absurd ht hs

end

/-! ### The buffers (R27, R29) -/

section
variable {i : Instr} {s t : State} (h : exec i s = .next t)
include h

/-- The two data rows alone write `rxbuf`, at index `dcount`. -/
theorem exec_rxbuf :
    t.rxbuf = s.rxbuf ∨
      ∃ b, (i = .rxData b ∨ i = .rxDataLast b) ∧ t.rxbuf = s.rxbuf.write s.dcount.toNat b := by
  by_cases hi : Stated.isRequest i
  · obtain ⟨op, x, hx⟩ := hi
    obtain ⟨-, -, -, -, -, hbuf⟩ := (exec_request_effect hx h).2.ports
    exact .inl hbuf
  · cases i
    case rxData b => obtain ⟨-, -, -, rfl⟩ := onRow_next h; exact .inr ⟨b, .inl rfl, rfl⟩
    case rxDataLast b => obtain ⟨-, -, -, rfl⟩ := onRow_next h; exact .inr ⟨b, .inr rfl, rfl⟩
    case rxHdr | rxSkip | rxAddr | rxAddrBad | rxCmd | rxSize0 | rxSizeN | rxSizeBad | rxCsumOk | rxCsumBad |
        rxAddrMiss => obtain ⟨-, -, -, rfl⟩ := onRow_next h; exact .inl rfl
    all_goals exact absurd ⟨_, _, rfl⟩ hi

/-- A receive row pushes no byte and records no contract violation. -/
theorem exec_receiveRow_kept (hi : ¬ Stated.isRequest i) : t.txbuf = s.txbuf ∧ t.cvFault = s.cvFault := by
  by_cases hc : ∃ b, i = .rxCsumOk b
  · obtain ⟨b, rfl⟩ := hc
    rw [exec_rxCsumOk_next h]
    exact ⟨rfl, rfl⟩
  · have hp := exec_receiveRow_parserOnly h hi (not_exists.1 hc)
    rw [Stated.parserOnly] at hp
    rw [hp]
    exact ⟨rfl, rfl⟩

/-- The pushes alone write `txbuf`, from `tx_cur` on. -/
theorem exec_txbuf :
    t.txbuf = s.txbuf ∨
      ∃ x w, i.isPush x ∧ t.txbuf = s.txbuf.writeBytes s.txCur.toNat (beBytes w x) := by
  rcases i.family with rfl | rfl | hpop | ⟨x, hpush⟩ | hrow
  · obtain ⟨-, ht⟩ := whenIdle_next h
    cases ht
    exact .inl rfl
  · obtain ⟨-, ⟨r, rfl⟩ | ⟨-, rfl⟩⟩ := execAck_next h <;> exact .inl rfl
  · obtain ⟨op, w, signed, -, he⟩ := exec_isPop hpop
    obtain ⟨-, ⟨r, -, rfl⟩ | ⟨-, v, -, rfl⟩⟩ := pop_next ((he s).symm.trans h) <;> exact .inl rfl
  · obtain ⟨op, w, -, he⟩ := exec_isPush hpush
    obtain ⟨-, ⟨r, -, rfl⟩ | ⟨-, rfl⟩⟩ := push_next ((he s).symm.trans h)
    · exact .inl rfl
    · exact .inr ⟨x, w, hpush, rfl⟩
  · exact .inl (exec_receiveRow_kept h hrow).1

end

/-- A recorded contract violation ends the run at every turn but reset (R202). -/
theorem takeTurn_of_violation {n : Turn} {s : State} {r : Violation} (hn : ∀ level, n ≠ .rst level)
    (hr : s.cvFault = some r) : takeTurn n s = .fault (.contractViolation r) := by
  cases n with
  | rst level => exact absurd rfl (hn level)
  | _ => simp only [takeTurn, hr]

/-- A recorded refusal ends the run at every turn but reset (R203). -/
theorem takeTurn_of_refusal {n : Turn} {s : State} {r : RefuseReason} (hn : ∀ level, n ≠ .rst level)
    (hc : s.cvFault = none) (hr : s.refused = some r) : takeTurn n s = .refused (.recorded r) := by
  cases n with
  | rst level => exact absurd rfl (hn level)
  | _ => simp only [takeTurn, hc, hr]

theorem Width.bytes_le (w : Width) : w.bytes ≤ 4 := by cases w <;> decide

end Sys2Proof.Machine

namespace Sys2Proof.Proofs

open Sys2Proof Sys2Proof.Machine

/-- Settles O33: of the effects of a request only the violation writes `cv_fault`, and it writes nothing else. -/
theorem violationWritesNothingElse : Obligations.ViolationWritesNothingElse := by
  intro i s t h hne
  by_cases hi : Stated.isRequest i
  · obtain ⟨op, x, hx⟩ := hi
    obtain ⟨-, he⟩ := exec_request_effect hx h
    cases he with
    | violation r => exact ⟨r, rfl⟩
    | _ => exact absurd rfl hne
  · exact absurd (exec_receiveRow_kept h hi).2 hne

/-- Settles O34: every turn but reset looks at the marks first. -/
theorem markedRunIsOver : Obligations.MarkedRunIsOver := by
  refine ⟨?_, ?_, ?_⟩
  · intro s r hr hn
    exact takeTurn_of_violation hn hr
  · intro s r hc hr hn
    exact takeTurn_of_refusal hn hc hr
  · intro s t hstep
    cases step_effect hstep with
    | reset level hn he =>
      obtain ⟨hfault, hrefused⟩ := he.marks
      exact ⟨fun _ hne => hfault.resolve_left hne, hrefused⟩
    | engine hn hc | agent hn hr hc => exact ⟨fun hne => absurd hc.1 hne, fun hne => absurd hc.2 hne⟩

/-- Settles O41: the effects of the shared operations, and `parserOnly` for the receive rows. -/
theorem instructionFrames : Obligations.InstructionFrames := by
  intro i s t h
  refine ⟨?_, ?_, ?_, ?_, ?_, exec_receiveRow_parserOnly h⟩
  · rintro rfl
    obtain ⟨-, ht⟩ := whenIdle_next h
    cases ht
    rfl
  · rintro rfl
    obtain ⟨-, ⟨r, rfl⟩ | ⟨-, rfl⟩⟩ := execAck_next h <;> rfl
  · intro (hi : i.isPop)
    obtain ⟨op, w, signed, -, he⟩ := exec_isPop hi
    obtain ⟨-, ⟨r, -, rfl⟩ | ⟨-, v, -, rfl⟩⟩ := pop_next ((he s).symm.trans h) <;> rfl
  · intro x (hi : i.isPush x)
    obtain ⟨op, w, -, he⟩ := exec_isPush hi
    obtain ⟨-, ⟨r, -, rfl⟩ | ⟨-, rfl⟩⟩ := push_next ((he s).symm.trans h) <;> rfl
  · rintro b rfl
    rw [exec_rxCsumOk_next h]
    rfl

/-- Settles O42: the one write to each buffer, and the bytes outside it. -/
theorem bufferBytesChangedOnlyByWriters : Obligations.BufferBytesChangedOnlyByWriters := by
  intro i s t h
  have hrx := exec_rxbuf h
  have htx : ∀ a, a < s.txCur.toNat ∨ s.txCur.toNat + 4 ≤ a → t.txbuf.read a = s.txbuf.read a := by
    intro a ha
    obtain hbuf | ⟨x, w, -, hbuf⟩ := exec_txbuf h
    · rw [hbuf]
    · have hw : w.bytes ≤ 4 := w.bytes_le
      rw [hbuf, Memory.read_writeBytes_outside _ _ _ _ (by rw [beBytes_length]; omega)]
  refine ⟨?_, ?_, fun a ha => htx a (.inl ha), fun a ha => htx a (.inr ha), ?_⟩
  · intro hi a
    obtain hbuf | ⟨b, rfl | rfl, -⟩ := hrx
    · rw [hbuf]
    · exact absurd rfl (hi b).1
    · exact absurd rfl (hi b).2
  · intro a ha
    obtain hbuf | ⟨b, -, hbuf⟩ := hrx
    · rw [hbuf]
    · rw [hbuf, Memory.read_write_other _ _ ha]
  · intro hi a
    obtain hbuf | ⟨x, w, hpush, -⟩ := exec_txbuf h
    · rw [hbuf]
    · obtain ⟨h1, h2, h3, h4, h5, h6⟩ := hi x
      exact absurd hpush (by simp [Instr.isPush, h1, h2, h3, h4, h5, h6])

/-- Settles O43: the engine takes the oldest byte in a POLL, the RX transport appends, nothing else touches RXQ. -/
theorem receiveQueueOrder : Obligations.ReceiveQueueOrder := by
  intro s t hstep
  cases step_effect hstep with
  | reset level hn he => obtain ⟨hrxq, -⟩ := he.ports; exact .inl hrxq
  | engine hn hc he =>
    obtain hsame | ⟨hm, b, hq⟩ := he.rxq
    · exact .inl hsame
    · exact .inr (.inr ⟨b, hn, hm, hq⟩)
  | agent hn hr hc he => exact he.rxq.imp_right .inl

/-- Settles O45: the engine appends its frame, the TX transport takes, nothing else touches TXQ. -/
theorem transmitQueueOrder : Obligations.TransmitQueueOrder := by
  intro s t hstep
  cases step_effect hstep with
  | reset level hn he => obtain ⟨-, htxq, hfl, -⟩ := he.ports; exact .inl ⟨htxq, hfl⟩
  | engine hn hc he =>
    obtain hsame | ⟨f, hm, hf⟩ := he.txq
    · exact .inl hsame
    · exact .inr (.inl ⟨f, hn, hm, hf⟩)
  | agent hn hr hc he => exact he.txq.imp_right .inr

/-- Settles O48: of all effects only the configuration inputs write the configuration, under reset. -/
theorem configurationStatic : Obligations.ConfigurationStatic := by
  refine ⟨fun s t hstep => ?_, rfl⟩
  have hsame : t.cfg = s.cfg → (s.rst = false → t.cfg = s.cfg) ∧ t.cfg.noDataTrailer = s.cfg.noDataTrailer :=
    fun h => ⟨fun _ => h, by rw [h]⟩
  cases step_effect hstep with
  | reset level hn he => obtain ⟨-, -, -, hcfg⟩ := he.ports; exact hsame hcfg
  | engine hn hc he => exact hsame he.cfg
  | agent hn hr hc he => exact he.cfg

end Sys2Proof.Proofs
end

section
/-! PROOFS. Runs from the invariant: every step answers a next state (R12, R41), the bus is gated (R172), and an ACK
runs through its phases under every turn (R170, R171). -/

namespace Sys2Proof.Machine

/-! ### A next state from every state of the invariant -/

section
variable {s : State} (h : Consistent s)
include h

theorem Consistent.pop_total (hm : s.mode = .idle) (op : BitVec 4) (w : Width) (signed : Bool) :
    ∃ t, pop op w signed s = .next t := by
  cases hcheck : popCheck s w.bytes with
  | some r => exact ⟨_, pop_of_violation hm op signed hcheck⟩
  | none =>
    obtain ⟨hwin, hfits⟩ := popCheck_none.1 hcheck
    obtain ⟨l, hl, hlen⟩ := Memory.readBytes_of_filled _ (h.payloadStored hwin) hfits
    obtain ⟨v, hv⟩ := Option.isSome_iff_exists.1 (beValue_isSome w signed l hlen)
    exact ⟨_, pop_of_value hm op hcheck ((State.popValue_of_readBytes signed w hl).trans hv)⟩

omit h in
theorem push_total (hm : s.mode = .idle) (op : BitVec 4) (w : Width) (x : Word32) :
    ∃ t, push op w x s = .next t := by
  cases hcheck : pushCheck s w.bytes with
  | some r => exact ⟨_, push_of_violation hm op x hcheck⟩
  | none => exact ⟨_, push_of_fits hm op x hcheck⟩

omit h in
theorem execAck_total (hm : s.mode = .idle) : ∃ t, execAck s = .next t := by
  cases hcheck : ackCheck s with
  | some r => exact ⟨_, execAck_of_violation hm hcheck⟩
  | none => exact ⟨_, execAck_of_windowOpen hm hcheck⟩

theorem Consistent.request_total (hm : s.mode = .idle) {i : Instr} (hi : Stated.isRequest i) :
    ∃ t, exec i s = .next t := by
  rcases i.family with rfl | rfl | hpop | ⟨x, hpush⟩ | hrow
  · exact ⟨_, exec_poll_of_idle hm⟩
  · exact execAck_total hm
  · obtain ⟨op, w, signed, -, he⟩ := exec_isPop hpop
    exact he s ▸ h.pop_total hm op w signed
  · obtain ⟨op, w, -, he⟩ := exec_isPush hpush
    exact he s ▸ push_total hm op w x
  · exact absurd hi hrow

theorem Consistent.idleStep_total (hm : s.mode = .idle) : ∃ t, idleStep s = .next t := by
  unfold idleStep
  split
  · exact ⟨_, rfl⟩
  · split
    next i hd =>
      obtain ⟨y, hi⟩ := decodeRequest_ok hd
      exact h.request_total hm ⟨_, y, hi⟩
    next => exact ⟨_, rfl⟩

/-- No byte is without a row (R42, R100). -/
theorem Consistent.byteHasRow (hr : s.rst = false) (hc : s.refused = none) (hm : s.mode = .polling) (b : Byte) :
    ∃ i t, decodeReceive s.rxCtx s.ps b = .ok i ∧ exec i s = .next t := by
  obtain ⟨i, t, hd, he, -⟩ :=
    Proofs.transitionTableTotal s b hm h.parserState h.dataCount (h.configLegal hr hc)
  exact ⟨i, t, (decode_rxWord _ _ _).symm.trans hd, he⟩

theorem Consistent.pollStep_total (hr : s.rst = false) (hc : s.refused = none) (hm : s.mode = .polling) :
    ∃ t, pollStep s = .next t := by
  cases hq : s.rxq with
  | nil => exact ⟨_, pollStep_of_empty hq⟩
  | cons b q =>
    obtain ⟨i, t, hd, he⟩ := (h.dropByte q).byteHasRow hr hc hm b
    exact ⟨t, (pollStep_of_byte hq ((decode_rxWord _ _ _).trans hd)).trans he⟩

/-- The reply encoder reads pushed bytes only (R41). -/
theorem Consistent.ackSendStep_total : ∃ t, ackSendStep s = .next t := by
  by_cases h0 : s.txCur = 0#4
  · exact ⟨_, ackSendStep_of_replyFrame (State.replyFrame_of_empty h0)⟩
  · obtain ⟨d, hd, -⟩ := Memory.readBytes_of_filled (i := 0) s.txCur.toNat h.pushedStored (Nat.zero_add _).le
    exact ⟨_, ackSendStep_of_replyFrame (State.replyFrame_of_data h0 hd)⟩

theorem Consistent.engineStep_total (hc : s.refused = none) : ∃ t, engineStep s = .next t := by
  cases hr : s.rst
  case true => exact ⟨s, engineStep_held hr⟩
  case false =>
    cases hm : s.mode
    case idle => exact engineStep_idle hr hm ▸ h.idleStep_total hm
    case polling => exact engineStep_polling hr hm ▸ h.pollStep_total hr hc hm
    case ackPre => exact ⟨_, engineStep_ackPre hr hm⟩
    case ackSend => exact engineStep_ackSend hr hm ▸ h.ackSendStep_total
    case ackFlush =>
      rw [engineStep_ackFlush hr hm, ackFlushStep]
      split <;> exact ⟨_, rfl⟩
    case ackPost => exact ⟨_, engineStep_ackPost hr hm⟩

theorem Consistent.step_total (hc : s.clean) : ∃ t, step s = .next t := by
  by_cases hn : ∃ level, s.nextTurn = .rst level
  · obtain ⟨level, hn⟩ := hn
    exact ⟨rstTurn level s.popTurn, by rw [step, hn]; rfl⟩
  · rw [step, takeTurn_of_clean (s := s.popTurn) (not_exists.1 hn) hc]
    cases s.nextTurn
    case engine => exact h.popTurn.engineStep_total hc.2
    all_goals exact ⟨_, rfl⟩

/-! ### The refusals that are left (R85, R203) -/

theorem Consistent.engine_refused (hc : s.refused = none) {t : State} (he : EngineEffect s t) :
    t.refused = none ∨
    (t.refused = some .reservedRequest ∧ s.mode = .idle ∧
      (s.req.map Request.op = some 0x0#4 ∨ s.req.map Request.op = some 0x9#4)) := by
  cases he with
  | reserved r hr hm hq hop => exact .inr ⟨rfl, hm, by simpa [hq] using hop⟩
  | request r hr hm hq he =>
    obtain ⟨-, -, -, -, hrefused, -⟩ := he.ports
    exact .inl (hrefused.trans hc)
  | @noRow b q e hr hm hq hd =>
    obtain ⟨i, t, hd', -⟩ := h.byteHasRow hr hc hm b
    cases hd.symm.trans hd'
  | row b q hr hm hq he =>
    obtain ⟨-, -, -, -, -, -, hrefused, -⟩ := he.ports
    exact .inl (hrefused.trans hc)
  | _ => exact .inl hc

theorem Consistent.step_refused (hc : s.clean) {t : State} (he : StepEffect s t) :
    t.refused = none ∨
    (t.refused = some .reservedRequest ∧ s.nextTurn = .engine ∧ s.mode = .idle ∧
      (s.req.map Request.op = some 0x0#4 ∨ s.req.map Request.op = some 0x9#4)) ∨
    (t.refused = some .badConfig ∧ s.nextTurn ≠ .engine) := by
  cases he with
  | reset level hn he =>
    have hne : s.nextTurn ≠ .engine := by rw [hn]; exact Turn.noConfusion
    cases he with
    | same => exact .inl hc.2
    | asserted => exact .inl rfl
    | released hl hr =>
      by_cases hlegal : s.popTurn.cfg.addressLegal = true
      · exact .inl ((if_pos hlegal).trans hc.2)
      · exact .inr (.inr ⟨if_neg hlegal, hne⟩)
  | engine hn hc' he =>
    obtain hnone | ⟨hres, hrest⟩ := h.popTurn.engine_refused hc.2 he
    · exact .inl hnone
    · exact .inr (.inl ⟨hres, hn, hrest⟩)
  | agent hn hr hc' he =>
    cases he with
    | badConfig => exact .inr (.inr ⟨rfl, hn⟩)
    | _ => exact .inl hc.2

end

/-! ### The gate of the bus (R172) -/

theorem busGate_append (e : Bool) (l m : List Event) :
    busGate e (l ++ m) = (busGate e l).bind fun e' => busGate e' m := by
  induction l generalizing e with
  | nil => rfl
  | cons x l ih => cases x <;> cases e <;> simp [busGate, ih]

theorem busGate_frame (f : List Byte) : busGate true (f.map Event.txByte) = some true := by
  induction f with
  | nil => rfl
  | cons b f ih => exact ih

/-- The events of a step, in which `tx_en` follows the gate. -/
def Gated (s t : State) : Prop := ∃ l, t.trace = s.trace ++ l ∧ busGate s.txEn l = some t.txEn

theorem Gated.level {s t : State} (h : Gated s t) (hs : busGate false s.trace = some s.txEn) :
    busGate false t.trace = some t.txEn := by
  obtain ⟨l, hl, hg⟩ := h
  rw [hl, busGate_append, hs]
  exact hg

theorem Gated.of_silent {s t : State} (htrace : t.trace = s.trace) (hen : t.txEn = s.txEn) : Gated s t :=
  ⟨[], by rw [htrace, List.append_nil], by rw [hen]; rfl⟩

section
variable {s t : State}

theorem RowEffect.gated {b : Byte} (he : RowEffect s b t) : Gated s t := by
  cases he with
  | accepted => exact ⟨[_, _], List.append_assoc _ _ _, rfl⟩
  | addressBad | sizeBad | checksumBad | addressMiss => exact ⟨[_], rfl, rfl⟩
  | _ => exact .of_silent rfl rfl

theorem RequestEffect.gated {op : BitVec 4} (hen : s.txEn = false) (he : RequestEffect s op t) : Gated s t := by
  cases he with
  | poll => exact .of_silent rfl rfl
  | ack => exact ⟨[.txEnRise], rfl, by rw [hen]; rfl⟩
  | pop | push | violation => exact ⟨[_], rfl, rfl⟩

theorem EngineEffect.gated (h : Consistent s) (he : EngineEffect s t) : Gated s t := by
  have hbus := h.busDriven
  cases he with
  | request r hr hm hq he => exact he.gated (by rw [hbus, hm]; rfl)
  | row b q hr hm hq he => exact he.gated
  | notReady => exact ⟨[_], rfl, rfl⟩
  | @sent ck f hr hm hf =>
    rw [hm] at hbus
    exact ⟨_, rfl, by rw [hbus]; exact busGate_frame f⟩
  | ended hr hm =>
    rw [hm] at hbus
    exact ⟨[.txEnFall, _], List.append_assoc _ _ _, by rw [hbus]; rfl⟩
  | _ => exact .of_silent rfl rfl

theorem ResetEffect.gated {level : Bool} (he : ResetEffect level s t) : Gated s t := by
  cases he with
  | asserted =>
    refine ⟨if s.txEn then [.txEnFall] else [], ?_, ?_⟩ <;> simp only [State.applyReset] <;> cases s.txEn
    all_goals simp [busGate]
  | _ => exact .of_silent rfl rfl

theorem AgentEffect.gated {n : Turn} (he : AgentEffect n s t) : Gated s t := by
  cases he <;> exact .of_silent rfl rfl

theorem StepEffect.gated (h : Consistent s) (he : StepEffect s t) : Gated s t := by
  cases he with
  | reset level hn he => exact he.gated (s := s.popTurn)
  | engine hn hc he => exact he.gated (s := s.popTurn) h.popTurn
  | agent hn hr hc he => exact he.gated (s := s.popTurn)

/-- The engine changes `tx_en` at the start and at the end of an ACK. -/
theorem EngineEffect.txEn (h : Consistent s) (he : EngineEffect s t) :
    t.txEn = s.txEn ∨
    (t.txEn = true ∧ s.mode = .idle ∧ t.mode = .ackPre ∧ s.req.map Request.op = some opAck) ∨
    (t.txEn = false ∧ s.mode = .ackPost ∧ s.txFlushed = true ∧ t.resp = some .done) := by
  cases he with
  | request r hr hm hq he =>
    cases he with
    | ack hop => exact .inr (.inl ⟨rfl, hm, rfl, (congrArg (Option.map Request.op) hq).trans (congrArg some hop)⟩)
    | _ => exact .inl rfl
  | row b q hr hm hq he =>
    obtain ⟨-, -, -, -, hen, -⟩ := he.ports
    exact .inl hen
  | ended hr hm => exact .inr (.inr ⟨rfl, hm, h.postFlushed hm, rfl⟩)
  | _ => exact .inl rfl

/-! ### The phases of an ACK (R170, R171) -/

variable (hack : s.mode.isAck = true)
include hack

theorem Consistent.rst_of_ack (h : Consistent s) : s.rst = false := by
  refine Bool.eq_false_iff.2 fun hrst => ?_
  obtain ⟨-, hm, -⟩ := h.resetHeld hrst
  rw [hm] at hack
  cases hack

theorem EngineEffect.ackPhase (h : Consistent s) (he : EngineEffect s t) :
    t.mode = ackNext s.txFlushed s.mode ∧ t.rxq = s.rxq ∧ t.txEn = (s.mode != .ackPost) ∧
      (if s.mode = .ackPost then t.req = none ∧ t.resp = some .done else t.req = s.req ∧ t.resp = s.resp) := by
  have hbus := h.busDriven
  cases he with
  | held hr => exact Bool.noConfusion ((h.rst_of_ack hack).symm.trans hr)
  | waits hr hm | reserved r hr hm | request r hr hm | notReady hr hm | noRow hr hm | row b q hr hm =>
    rw [hm] at hack
    cases hack
  | settled hr hm | sent hr hm | ended hr hm => simp [hm, hbus, ackNext, Mode.isAck]
  | flushed hr hm hf | awaits hr hm hf => simp [hm, hf, hbus, ackNext, Mode.isAck]

theorem ResetEffect.ackPhase {level : Bool} (h : Consistent s) (he : ResetEffect level s t) :
    (level = true ∧ t.mode = .idle ∧ t.txEn = false ∧ t.req = none ∧ t.resp = none) ∨ (level = false ∧ t = s) := by
  have hrst := h.rst_of_ack hack
  cases he with
  | same hl => exact .inr ⟨hl.trans hrst, rfl⟩
  | asserted hl hr => exact .inl ⟨hl, rfl, rfl, rfl, rfl⟩
  | released hl hr => exact Bool.noConfusion (hrst.symm.trans hr)

theorem AgentEffect.ackPhase {n : Turn} (he : AgentEffect n s t) :
    t.mode = s.mode ∧ t.txEn = s.txEn ∧ t.req = s.req ∧ t.resp = s.resp ∧ t.trace = s.trace := by
  cases he with
  | host q p l hs =>
    obtain ⟨-, hm, -⟩ := hostReady_iff.1 hs
    rw [hm] at hack
    cases hack
  | _ => exact ⟨rfl, rfl, rfl, rfl, rfl⟩

end

end Sys2Proof.Machine

namespace Sys2Proof.Proofs

open Sys2Proof Sys2Proof.Machine

/-- Settles O51: the invariant gives every read its bytes and every byte its row. -/
theorem invariantStatesStep : Obligations.InvariantStatesStep := by
  intro s h hc
  obtain ⟨t, hstep⟩ := h.step_total hc
  refine ⟨t, hstep, ?_⟩
  obtain hnone | ⟨hres, hwhy⟩ | ⟨hbad, hne⟩ := h.step_refused hc (step_effect hstep)
  · simp [hnone]
  · exact ⟨by simp [hres], by simp [hres], fun _ => hwhy, by simp [hres]⟩
  · simp [hbad, hne]

/-- Settles O52: of all effects the two ends of an ACK and the assertion of reset change `tx_en`. -/
theorem transmitEnableGated : Obligations.TransmitEnableGated := by
  intro s t h hstep hne
  cases step_effect hstep with
  | reset level hn he =>
    cases he with
    | asserted hl => exact .inr (.inr ⟨rfl, hl ▸ hn⟩)
    | _ => exact absurd rfl hne
  | engine hn hc he =>
    obtain hsame | hstart | hend := he.txEn h.popTurn
    · exact absurd hsame hne
    · exact .inl hstart
    · exact .inr (.inl hend)
  | agent hn hr hc he =>
    cases he <;> exact absurd rfl hne

/-- Settles O53: the events of each step take the gate from the old level of `tx_en` to the new one. -/
theorem busGateKept : Obligations.BusGateKept := fun _ _ h hs hstep => ((step_effect hstep).gated h).level hs

/-- Settles O56: the engine goes on by the phases, reset ends the ACK, and the other agents leave it. -/
theorem ackRunsInOrder : Obligations.AckRunsInOrder := by
  intro s t h hack hstep
  cases step_effect hstep with
  | reset level hn he =>
    refine ⟨fun hn' => Turn.noConfusion (hn.symm.trans hn'), ?_, ?_⟩ <;> rw [hn]
    · rintro ⟨⟩
      obtain ⟨-, hend⟩ | ⟨hl, -⟩ := he.ackPhase (s := s.popTurn) hack h.popTurn
      · exact hend
      · cases hl
    · intro _ hne
      obtain ⟨rfl, -⟩ | ⟨-, rfl⟩ := he.ackPhase (s := s.popTurn) hack h.popTurn
      · exact absurd rfl hne
      · exact ⟨rfl, h.busDriven.trans hack, rfl, rfl, rfl⟩
  | engine hn hc he =>
    exact ⟨fun _ => he.ackPhase (s := s.popTurn) hack h.popTurn, fun hn' => Turn.noConfusion (hn.symm.trans hn'),
      fun hne => absurd hn hne⟩
  | agent hn hr hc he =>
    refine ⟨fun hn' => absurd hn' hn, fun hn' => absurd hn' (hr true), fun _ _ => ?_⟩
    obtain ⟨hmode, hen, hrest⟩ := he.ackPhase (s := s.popTurn) hack
    exact ⟨hmode, hen.trans (h.busDriven.trans hack), hrest⟩

end Sys2Proof.Proofs
end

section
/-! PROOFS. Single turns and fixed lists of turns: the phases of an ACK (R160 to R169), refusals (R203), reset (R230,
R231, R233), the host and the dispatcher (R180 to R186), the transports (R38, R39). -/

namespace Sys2Proof.Machine

/-! ### Steps by the head of the schedule -/

/-- The step of a turn other than reset, in a run that is not over. -/
theorem step_of_agent {s : State} {n : Turn} {ts : List Turn} (h : s.turns = n :: ts)
    (hn : ∀ level, n ≠ .rst level) (hc : s.clean) : step s = agentMove n { s with turns := ts } :=
  (step_of_turns h).trans (takeTurn_of_clean hn hc)

theorem step_of_reset {s : State} {level : Bool} {ts : List Turn} (h : s.turns = .rst level :: ts) :
    step s = .next (rstTurn level { s with turns := ts }) := step_of_turns h

theorem step_of_flushed {s : State} {ts : List Turn} (h : s.turns = .flushed :: ts) (hc : s.clean) :
    step s = .next { s with turns := ts, txq := [], txFlushed := true } := step_of_agent h nofun hc

/-- The step of an engine turn at the head of the schedule. -/
theorem step_of_engineTurn {s t : State} {ts : List Turn} (h : s.turns = .engine :: ts) (hc : s.clean)
    (he : engineStep { s with turns := ts } = .next t) : step s = .next t :=
  (step_of_agent h nofun hc).trans he

theorem stepN_of_step {s t : State} {n : Nat} {o : Option State} (h : step s = .next t) (hn : stepN n t = o) :
    stepN (n + 1) s = o := by
  simp only [stepN, h, hn]

/-! ### The request on the port -/

section
variable {s : State} {r : Request} (hq : s.req = some r)
include hq

theorem idleStep_of_request {i : Instr} (hd : decode s.rxCtx (.request r.op r.data) = .ok i) :
    idleStep s = exec i s := by
  simp only [idleStep, hq, hd]

theorem idleStep_of_error {e : RefuseReason} (hd : decode s.rxCtx (.request r.op r.data) = .error e) :
    idleStep s = .next (s.refuse e) := by
  simp only [idleStep, hq, hd]

end

theorem pollStep_of_error {s : State} {b : Byte} {q : List Byte} {e : RefuseReason} (hq : s.rxq = b :: q)
    (hd : decode s.rxCtx (.receive (rxWord s.ps b)) = .error e) : pollStep s = .next (s.refuse e) := by
  simp only [pollStep, hq, hd]

/-- The parser states 6 and 7 have no row (R119). -/
theorem decode_badParserState {c : RxCtx} {p : BitVec 3} {b : Byte} (hp : p = 6#3 ∨ p = 7#3) :
    decode c (.receive (rxWord p b)) = .error .badParserState := by
  rw [decode_rxWord]
  rcases hp with rfl | rfl <;> rfl

/-! ### The phases of an ACK -/

section
variable {s : State} {ck : Byte} {f : List Byte} (hr : s.rst = false)
include hr

/-- An ACK on the port in an open push window starts (R161). -/
theorem engineStep_of_ack {x : Word32} (hm : s.mode = .idle) (hq : s.req = some ⟨0x8#4, x⟩)
    (hwin : s.txwin = true) :
    engineStep s = .next ({ s with txwin := false, txEn := true, mode := .ackPre }.emit .txEnRise) := by
  rw [engineStep_idle hr hm, idleStep_of_request (i := .ack) hq rfl]
  exact execAck_of_windowOpen hm (ackCheck_none.2 hwin)

theorem engineStep_of_settled (hm : s.mode = .ackPre) : engineStep s = .next { s with mode := .ackSend } :=
  engineStep_ackPre hr hm

theorem engineStep_of_frame (hm : s.mode = .ackSend) (h : s.replyFrame = some (ck, f)) :
    engineStep s = .next { s with
      txCsum := ck, mode := .ackFlush, txq := s.txq ++ f, txFlushed := false,
      trace := s.trace ++ f.map Event.txByte } :=
  (engineStep_ackSend hr hm).trans (ackSendStep_of_replyFrame h)

theorem engineStep_of_waiting (hm : s.mode = .ackFlush) (hf : s.txFlushed = false) : engineStep s = .next s := by
  simp [engineStep_ackFlush hr hm, ackFlushStep, hf]

theorem engineStep_of_flushed (hm : s.mode = .ackFlush) (hf : s.txFlushed = true) :
    engineStep s = .next { s with mode := .ackPost } := by
  simp [engineStep_ackFlush hr hm, ackFlushStep, hf]

/-- The end of an ACK as one update (R167, R168). -/
theorem engineStep_of_post (hm : s.mode = .ackPost) :
    engineStep s = .next { s with
      txEn := false, mode := .idle, req := none, resp := some .done,
      trace := s.trace ++ [.txEnFall, .resp 0x8#4 .done] } := by
  simp [engineStep_ackPost hr hm, ackPostStep, State.emit, State.respond, opAck]

end

/-! ### The reset input, the configuration, the host -/

theorem rstTurn_assert {s : State} (hr : s.rst = false) : rstTurn true s = s.applyReset := by simp [rstTurn, hr]

theorem rstTurn_again {s : State} (hr : s.rst = true) : rstTurn true s = s := by simp [rstTurn, hr]

theorem rstTurn_release {s : State} (hr : s.rst = true) :
    rstTurn false s =
      { s with rst := false, refused := if s.cfg.addressLegal then s.refused else some .badConfig } := by
  simp [rstTurn, hr]

theorem configTurn_underReset {s : State} (c : ConfigInputs) (hr : s.rst = true) :
    configTurn c s = { s with cfg := { s.cfg with toConfigInputs := c } } := if_pos hr

theorem configTurn_changed {s : State} {c : ConfigInputs} (hr : s.rst = false) (hc : c ≠ s.cfg.toConfigInputs) :
    configTurn c s = s.refuse .badConfig := by simp [configTurn, hr, hc]

theorem hostReady_of_free {s : State} (hq : s.req = none) (hm : s.mode = .idle) (hr : s.rst = false) :
    s.hostReady = true := hostReady_iff.2 ⟨hq, hm, hr⟩

theorem not_hostReady_of_busy {s : State} (h : s.req ≠ none ∨ s.mode ≠ .idle) : ¬ s.hostReady = true := by
  rw [hostReady_iff]
  rintro ⟨hq, hm, -⟩
  exact h.elim (absurd hq) (absurd hm)

theorem not_hostReady_of_reset {s : State} (hr : s.rst = true) : ¬ s.hostReady = true := by
  simp [hostReady_iff, hr]

theorem hostTurn_of_ready {s : State} (r : Request) (h : s.hostReady = true) : hostTurn r s = s.present r := if_pos h

theorem hostTurn_of_not_ready {s : State} (r : Request) (h : ¬ s.hostReady = true) : hostTurn r s = s := if_neg h

theorem dispatchTurn_of_not_ready {s : State} (v : Sensors) (h : ¬ s.hostReady = true) : dispatchTurn v s = s :=
  if_neg h

section
variable {s : State} (v : Sensors) (h : s.hostReady = true)
include h

theorem dispatchTurn_of_pending {r : Request} {q : List Request} (hq : s.hostq = r :: q) :
    dispatchTurn v s = { s with hostq := q }.present r := by
  simp [dispatchTurn, h, hq]

theorem dispatchTurn_of_ready {cmd : Byte} {size : Nibble} (hq : s.hostq = [])
    (hp : s.resp = some (.ready cmd size)) :
    dispatchTurn v s = { s with hostq := dispatcherRequests s.hostParams v cmd size, resp := none } := by
  simp [dispatchTurn, h, hq, hp]

theorem dispatchTurn_of_cycle (hq : s.hostq = []) (hp : ∀ c n, s.resp ≠ some (.ready c n)) :
    dispatchTurn v s = s.present ⟨opPoll, 0⟩ := by
  rw [dispatchTurn, if_pos h, hq]
  dsimp only
  split
  next cmd size hresp => exact absurd hresp (hp cmd size)
  next => rfl

end

/-! ### The dispatcher's requests (R182 to R186) -/

section
variable {p : HostParams} {v : Sensors} {cmd : Byte} {size : Nibble}

theorem dispatcherRequests_of_unknown (h : commandOf p cmd = none) : dispatcherRequests p v cmd size = [] := by
  simp only [dispatcherRequests, h]

theorem dispatcherRequests_of_command {k : Command} (h : commandOf p cmd = some k) :
    dispatcherRequests p v cmd size = if sizeAccepted p k size then k.requests v else [] := by
  simp only [dispatcherRequests, h]

theorem Command.sizeIn_eq (k : Command) : k.sizeIn = 0#4 := by cases k <;> rfl

theorem sizeAccepted_iff {k : Command} :
    sizeAccepted p k size = true ↔ size = 0#4 ∨ ∃ x, k = .read x ∧ p.literalSizeBug = some x := by
  cases k <;> simp [sizeAccepted, Command.sizeIn_eq]

theorem Command.requests_of_other {k : Command} (h : ∀ x, k ≠ .read x) : k.requests v = [⟨opAck, 0⟩] := by
  cases k with
  | read x => exact absurd rfl (h x)
  | _ => rfl

end

end Sys2Proof.Machine

namespace Sys2Proof.Proofs

open Sys2Proof Sys2Proof.Machine

/-- Settles O30: one equation per phase. -/
theorem ackPhases : Obligations.AckPhases := by
  intro s hn
  have hr : s.rst = false := hn.2.1
  rw [step_of_engineNext hn]
  exact ⟨engineStep_of_settled hr, engineStep_of_waiting hr, engineStep_of_flushed hr, engineStep_of_post hr⟩

/-- Settles O32: by induction, each step is a hold. -/
theorem ackHoldsWithoutFlush : Obligations.AckHoldsWithoutFlush := by
  intro n s hn hm hf
  obtain ⟨-, hhold, -⟩ := ackPhases s hn
  induction n with
  | zero => rfl
  | succ n ih => exact stepN_of_step (hhold hm hf) ih

/-- Settles O31: the start, the settle, the frame, the flush by the transport, and the two steps of the end. -/
theorem ackTransaction : Obligations.AckTransaction := by
  intro s x d ts hm hr hc hq hwin hread hturns
  obtain ⟨ck, f, hcase, hframe⟩ : ∃ ck f,
      (if s.txCur = 0#4 then ck = 0x77#8 ∧ f = noDataFrame s.cfg.noDataTrailer
        else ck = replyCsum d ∧ f = dataFrame d) ∧ s.replyFrame = some (ck, f) := by
    by_cases h0 : s.txCur = 0#4
    · exact ⟨_, _, by rw [if_pos h0]; exact ⟨rfl, rfl⟩, State.replyFrame_of_empty h0⟩
    · exact ⟨_, _, by rw [if_neg h0]; exact ⟨rfl, rfl⟩, State.replyFrame_of_data h0 hread⟩
  refine ⟨ck, f, hcase, stepN_of_step (step_of_engineTurn hturns hc (engineStep_of_ack hr hm hq hwin)) ?_⟩
  refine stepN_of_step (step_of_engineTurn rfl hc (engineStep_of_settled hr rfl)) ?_
  refine stepN_of_step (step_of_engineTurn rfl hc (engineStep_of_frame hr rfl hframe)) ?_
  refine stepN_of_step (step_of_flushed rfl hc) ?_
  refine stepN_of_step (step_of_engineTurn rfl hc (engineStep_of_flushed hr rfl rfl)) ?_
  exact stepN_of_step (step_of_engineTurn rfl hc (engineStep_of_post hr rfl)) rfl

/-- Settles O35: each refusal is the one write of `State.refuse`, or of the release of reset. -/
theorem refusalsRecorded : Obligations.RefusalsRecorded := by
  refine ⟨?_, ?_, ?_, ?_⟩
  · intro s op x hn hm hq hop
    rw [step_of_engineNext hn, engineStep_idle hn.2.1 hm]
    exact idleStep_of_error hq (decodeRequest_error_iff.2 ⟨rfl, hop⟩)
  · intro s b q hn hm hq hp
    rw [step_of_polling hn hm]
    exact pollStep_of_error hq (decode_badParserState hp)
  · intro s ts ht hr hsum
    have hillegal : ¬ s.cfg.addressLegal = true := by simpa [Config.addressLegal] using hsum
    rw [step_of_reset ht, rstTurn_release (s := { s with turns := ts }) hr, if_neg hillegal]
  · intro s c ts ht hr hc hne
    exact (step_of_agent ht nofun hc).trans (congrArg Host.Outcome.next (configTurn_changed hr hne))

/-- Settles O37: `State.reset` holds the reset column, and without a request the engine waits. -/
theorem resetStateValues : Obligations.ResetStateValues := ⟨rfl, rfl, rfl, rfl, rfl, rfl, rfl, rfl, rfl, rfl⟩

/-- Settles O38: the turn is `applyReset`. -/
theorem resetTurn : Obligations.ResetTurn := by
  intro s ts ht hr
  refine ⟨_, (step_of_reset ht).trans (congrArg _ (rstTurn_assert hr)), rfl, rfl, rfl, rfl, rfl, rfl, rfl, rfl, rfl,
    rfl, rfl, rfl, rfl, rfl, rfl, ?_⟩
  cases hen : s.txEn <;> simp [State.applyReset]

/-- Settles O39: the engine's step in IDLE and in a POLL runs what it decodes. -/
theorem stepRunsDecoded : Obligations.StepRunsDecoded := by
  constructor
  · intro s r i hn hr hc hm hq hd
    exact (step_engine hn hc).trans
      ((engineStep_idle (s := s.popTurn) hr hm).trans (idleStep_of_request (s := s.popTurn) hq hd))
  · intro s b q i hn hr hc hm hq hd
    exact (step_engine hn hc).trans
      ((engineStep_polling (s := s.popTurn) hr hm).trans (pollStep_of_byte (s := s.popTurn) hq hd))

/-- Settles O44: the host moves exactly when it is ready. -/
theorem hostWaitsForResponse : Obligations.HostWaitsForResponse := by
  intro s r ts ht hc hr
  rw [step_of_agent ht nofun hc]
  constructor
  · intro hq hm
    exact congrArg Host.Outcome.next (hostTurn_of_ready r (hostReady_of_free hq hm hr))
  · intro hbusy
    exact congrArg Host.Outcome.next (hostTurn_of_not_ready r (not_hostReady_of_busy hbusy))

/-- Settles O46: the command of the code and the size check decide the requests. -/
theorem dispatcherServesCommands : Obligations.DispatcherServesCommands := by
  intro s v cmd size ts ht hc hr hq hm hl hp
  have hstep : ∀ {l}, dispatcherRequests s.hostParams v cmd size = l →
      step s = .next { s with turns := ts, resp := none, hostq := l } := by
    rintro _ rfl
    exact (step_of_agent ht nofun hc).trans
      (congrArg _ (dispatchTurn_of_ready (s := { s with turns := ts }) v (hostReady_of_free hq hm hr) hl hp))
  refine ⟨?_, ?_, ?_, ?_⟩
  · intro hk
    rw [hstep (dispatcherRequests_of_unknown hk), ← hl]
  · intro k hk hsize hbug
    have hreject : ¬ sizeAccepted s.hostParams k size = true := by
      rw [sizeAccepted_iff]
      rintro (h0 | ⟨x, hx, hb⟩)
      · exact hsize h0
      · exact hbug x hx hb
    rw [hstep ((dispatcherRequests_of_command hk).trans (if_neg hreject)), ← hl]
  · intro x hk hsize
    have haccept : sizeAccepted s.hostParams (.read x) size = true :=
      sizeAccepted_iff.2 (hsize.imp_right fun hb => ⟨x, rfl, hb⟩)
    exact hstep ((dispatcherRequests_of_command hk).trans (if_pos haccept))
  · intro k hk hother hsize
    have haccept : sizeAccepted s.hostParams k size = true := sizeAccepted_iff.2 (.inl hsize)
    exact hstep ((dispatcherRequests_of_command hk).trans
      ((if_pos haccept).trans (Command.requests_of_other hother)))

/-- Settles O47: a pending request first, else a new cycle, and nothing while a request is outstanding. -/
theorem dispatcherCycle : Obligations.DispatcherCycle := by
  intro s v ts ht hc hr
  rw [step_of_agent ht nofun hc]
  refine ⟨?_, ?_, ?_⟩
  · intro r q hq hm hl
    exact congrArg _ (dispatchTurn_of_pending (s := { s with turns := ts }) v (hostReady_of_free hq hm hr) hl)
  · intro hq hm hl hp
    exact congrArg _ (dispatchTurn_of_cycle (s := { s with turns := ts }) v (hostReady_of_free hq hm hr) hl hp)
  · intro hbusy
    exact congrArg Host.Outcome.next (dispatchTurn_of_not_ready v (not_hostReady_of_busy hbusy))

/-- Settles O55: each transport turn is one update of its queue. -/
theorem transportTurnsFrame : Obligations.TransportTurnsFrame := fun _ _ hc =>
  ⟨fun _ ht => step_of_agent ht nofun hc, fun ht => step_of_agent ht nofun hc, fun ht => step_of_flushed ht hc⟩

/-- Settles O57: under reset every agent but the configuration and the reset input is without a move. -/
theorem resetHeldAndReleased : Obligations.ResetHeldAndReleased := by
  intro s hr
  have hnot : ∀ {ts}, ¬ State.hostReady { s with turns := ts } = true := not_hostReady_of_reset hr
  refine ⟨?_, ?_, ?_, ?_, ?_, ?_, ?_⟩
  · intro hc hn
    exact (step_engine hn hc).trans (engineStep_held hr)
  · intro r ts hc ht
    exact (step_of_agent ht nofun hc).trans (congrArg Host.Outcome.next (hostTurn_of_not_ready r hnot))
  · intro v ts hc ht
    exact (step_of_agent ht nofun hc).trans (congrArg Host.Outcome.next (dispatchTurn_of_not_ready v hnot))
  · intro c ts hc ht
    exact (step_of_agent ht nofun hc).trans (congrArg Host.Outcome.next (configTurn_underReset c hr))
  · intro ts ht
    exact (step_of_reset ht).trans (congrArg Host.Outcome.next (rstTurn_again hr))
  · intro ts ht hsum
    have hlegal : s.cfg.addressLegal = true := decide_eq_true hsum
    rw [step_of_reset ht, rstTurn_release (s := { s with turns := ts }) hr, if_pos hlegal]
  · intro h
    obtain ⟨hps, hm, hrd, htx, hen, hrw, htw, hcv, href, -⟩ := h.resetHeld hr
    exact ⟨hps, hm, hrd, htx, hen, hrw, htw, hcv, href⟩

end Sys2Proof.Proofs
end

section
/-! PROOFS. The round trip of a pushed value (R148), the command codes of the dispatcher (R183), and the step after a
table word was placed (log entry 15). -/

namespace Sys2Proof

/-- The transition table reads the count and the size in WFD, the sum and the addresses in WFK, and no other register
(R80, R100). -/
theorem decodeReceive_congr {c c' : RxCtx} {p : BitVec 3} (b : Byte)
    (hdata : p = psWFD → c'.dcount = c.dcount ∧ c'.sizeReg = c.sizeReg)
    (hcheck : p = psWFK → c'.csum = c.csum ∧ c'.myAddr.isSome = c.myAddr.isSome ∧
      (c'.myAddr = some c'.candAddr ↔ c.myAddr = some c.candAddr)) :
    decodeReceive c' p b = decodeReceive c p b := by
  by_cases hk : p = psWFK
  · obtain ⟨hc, hs, ha⟩ := hcheck hk
    rw [hk, decodeReceive_inWFK, decodeReceive_inWFK, hc, hs]
    simp only [ha]
  unfold decodeReceive
  by_cases hd : p = psWFD
  · obtain ⟨hk, hn⟩ := hdata hd
    rw [hk, hn, hd]
    rfl
  · simp only [hd, hk, if_false]

end Sys2Proof

namespace Sys2Proof.Machine

/-! ### The round trip of a value (R148) -/

/-- Read back, the bytes of a push are the low `8w` bits of its argument. -/
theorem beValue_beBytes (w : Width) (signed : Bool) (x : Word32) :
    beValue w signed (beBytes w x) = some (extend32 signed (x.extractLsb' 0 (8 * w.bytes))) := by
  cases w
  case w1 => rfl
  case w2 =>
    simp only [beBytes, beValue]
    rw [BitVec.extractLsb'_append_extractLsb'_eq_extractLsb' (by rfl : 8 = 0 + 8)]
    rfl
  case w4 =>
    simp only [beBytes, beValue]
    rw [BitVec.extractLsb'_append_extractLsb'_eq_extractLsb' (by rfl : 24 = 16 + 8),
      BitVec.extractLsb'_append_extractLsb'_eq_extractLsb' (by rfl : 16 = 8 + 8),
      BitVec.extractLsb'_append_extractLsb'_eq_extractLsb' (by rfl : 8 = 0 + 8)]
    rfl

/-- A value below `2 ^ n` is its low `n` bits. -/
theorem zeroExtend_low {n : Nat} {x : Word32} (hx : x.toNat < 2 ^ n) : extend32 false (x.extractLsb' 0 n) = x := by
  refine BitVec.eq_of_toNat_eq ?_
  rw [extend32, if_neg Bool.false_ne_true, BitVec.toNat_setWidth, BitVec.extractLsb'_toNat, Nat.shiftRight_zero,
    Nat.mod_eq_of_lt hx, Nat.mod_eq_of_lt x.isLt]

/-- A signed value of `n` bits is its low `n` bits, the top one of them its sign. -/
theorem signExtend_low {n : Nat} {x : Word32} (h0 : 0 < n) (hn : n ≤ 32)
    (hx : -(2 ^ (n - 1) : Int) ≤ x.toInt ∧ x.toInt < 2 ^ (n - 1)) : extend32 true (x.extractLsb' 0 n) = x := by
  have hpow : 2 ^ n = 2 * 2 ^ (n - 1) := by rw [← Nat.pow_succ', Nat.succ_eq_add_one, Nat.sub_add_cancel h0]
  refine BitVec.eq_of_toInt_eq ?_
  rw [extend32, if_pos rfl, BitVec.toInt_signExtend_of_le hn, ← BitVec.setWidth_eq_extractLsb' hn,
    BitVec.toInt_setWidth, ← Int.bmod_bmod_of_dvd (Nat.pow_dvd_pow 2 hn), ← BitVec.toInt_eq_toNat_bmod]
  refine Int.bmod_eq_of_le ?_ ?_ <;> rw [hpow] <;> push_cast <;> omega

/-! ### The command codes (R183) -/

/-- The codes of R183 in the order of `HostParams.codesDistinct`, with their commands. -/
def codeTable (p : HostParams) : List (Byte × Command) :=
  [(0x02#8, .read .a), (p.cmdPing, .ping), (p.cmdInit, .init), (p.cmdReadB, .read .b), (p.cmdReadC, .read .c),
    (p.cmdReadD, .read .d), (p.cmdOutOn, .outOn), (p.cmdOutOff, .outOff)]

theorem lookup_cons_ite (c k : Byte) (v : Command) (l : List (Byte × Command)) :
    List.lookup c ((k, v) :: l) = if c = k then some v else List.lookup c l := by
  rw [List.lookup_cons]
  by_cases h : c = k
  · rw [beq_iff_eq.2 h, if_pos h]
  · rw [beq_eq_false_iff_ne.2 h, if_neg h]

theorem commandOf_eq_lookup (p : HostParams) (c : Byte) : commandOf p c = (codeTable p).lookup c := by
  simp only [commandOf, codeTable, lookup_cons_ite, List.lookup_nil]

/-- In a table of distinct codes a code is met at its own entry. -/
theorem lookup_of_mem {l : List (Byte × Command)} (hl : (l.map Prod.fst).Nodup) {k : Byte} {v : Command}
    (h : (k, v) ∈ l) : l.lookup k = some v := by
  induction l with
  | nil => cases h
  | cons e l ih =>
    rw [List.map_cons, List.nodup_cons] at hl
    rw [lookup_cons_ite]
    rcases List.mem_cons.1 h with rfl | hmem
    · exact if_pos rfl
    · have hne : k ≠ e.1 := fun hk => hl.1 (List.mem_map.2 ⟨(k, v), hmem, hk⟩)
      exact (if_neg hne).trans (ih hl.2 hmem)

theorem commandOf_of_mem {p : HostParams} (hp : p.codesDistinct) {k : Byte} {v : Command}
    (h : (k, v) ∈ codeTable p) : commandOf p k = some v :=
  (commandOf_eq_lookup p k).trans (lookup_of_mem (l := codeTable p) hp h)

theorem commandOf_of_not_mem {p : HostParams} {c : Byte} (h : c ∉ (codeTable p).map Prod.fst) :
    commandOf p c = none := by
  rw [commandOf_eq_lookup, List.lookup_eq_none_iff]
  intro e he
  exact bne_iff_ne.2 fun hc => h (hc ▸ List.mem_map_of_mem he)

/-! ### The step after a placed word -/

/-- A placed receive word gives the registers of its parser state the values of `tableCtx` (log entry 15). -/
theorem placeReceive_eq (s : State) (p : BitVec 3) (b : Byte) :
    ∃ k n c a, s.placeReceive p b =
        { s.readyToRun with
          mode := .polling, req := some ⟨opPoll, 0⟩, resp := none, ps := p, rxq := b :: s.rxq,
          dcount := k, sizeReg := n, csum := c, candAddr := a } ∧
      (p = psWFD → k = tableCtx.dcount ∧ n = tableCtx.sizeReg) ∧
      (p = psWFK → c = tableCtx.csum ∧ a = s.cfg.myAddr.getD 0#6) := by
  unfold State.placeReceive
  split_ifs with hd hk
  · exact ⟨_, _, _, _, rfl, fun _ => ⟨rfl, rfl⟩, fun hk => absurd (hd.symm.trans hk) (by decide)⟩
  · exact ⟨_, _, _, _, rfl, fun h => absurd h hd, fun _ => ⟨rfl, rfl⟩⟩
  · exact ⟨_, _, _, _, rfl, fun h => absurd h hd, fun h => absurd h hk⟩

/-- The schedule, RXQ, the configuration, the observation and the buffers are those of `s`. -/
def SamePlaced (s u : State) : Prop :=
  u.turns = s.turns ∧ u.rxq = s.rxq ∧ u.cfg = s.cfg ∧ u.trace = s.trace ∧ u.rxbuf = s.rxbuf ∧ u.txbuf = s.txbuf

theorem step_of_placeRequest (s : State) {op : BitVec 4} {x : Word32} {i : Instr}
    (hd : decodeRequest op x = .ok i) : ∃ u, step (s.placeRequest op x) = exec i u ∧ SamePlaced s u := by
  obtain ⟨hrun, -⟩ := Proofs.stepRunsDecoded
  exact ⟨_, hrun _ ⟨op, x⟩ i rfl rfl ⟨rfl, rfl⟩ rfl rfl hd, rfl, rfl, rfl, rfl, rfl, rfl⟩

theorem step_of_placeReceive {s : State} (hlegal : s.cfg.addressLegal = true) {p : BitVec 3} {b : Byte} {i : Instr}
    (hd : decodeReceive tableCtx p b = .ok i) : ∃ u, step (s.placeReceive p b) = exec i u ∧ SamePlaced s u := by
  obtain ⟨a', ha'⟩ := Config.myAddr_of_legal hlegal
  obtain ⟨k, n, c, a, hplace, hdata, hcheck⟩ := placeReceive_eq s p b
  have hcheck' : p = psWFK → c = tableCtx.csum ∧ s.cfg.myAddr.isSome = tableCtx.myAddr.isSome ∧
      (s.cfg.myAddr = some a ↔ tableCtx.myAddr = some tableCtx.candAddr) := by
    intro hp
    obtain ⟨hc, ha⟩ := hcheck hp
    simp [hc, ha, ha', tableCtx]
  have hd' := (decode_rxWord _ _ _).trans 
    ((decodeReceive_congr (c' := ⟨c, k, n, a, s.cfg.myAddr⟩) b hdata hcheck').trans hd)
  obtain ⟨-, hrun⟩ := Proofs.stepRunsDecoded
  rw [hplace]
  exact ⟨_, hrun _ b s.rxq i rfl rfl ⟨rfl, rfl⟩ rfl rfl hd', rfl, rfl, rfl, rfl, rfl, rfl⟩

end Sys2Proof.Machine

namespace Sys2Proof.Proofs

open Sys2Proof Sys2Proof.Machine

/-- Settles O27: reading back gives the low bits, and a value in range is the extension of its low bits. -/
theorem pushedValueReadsBack : Obligations.PushedValueReadsBack := by
  intro w signed x hx
  rw [beValue_beBytes]
  cases signed
  case false => exact congrArg some (zeroExtend_low (by simpa using hx))
  case true => exact congrArg some (signExtend_low (by cases w <;> decide) (by cases w <;> decide) (by simpa using hx))

/-- Settles O40: the placed registers select the row that `tableCtx` selects. -/
theorem placedWordRuns : Obligations.PlacedWordRuns := by
  intro s nbits w i hlegal hi
  have hd : decode tableCtx (tableWord nbits w) = .ok i := by
    unfold decodeTableWord at hi
    split at hi <;> cases hi
    assumption
  rw [State.withFetchWord]
  cases htable : tableWord nbits w <;> rw [htable] at hd
  case request op x => exact step_of_placeRequest s hd
  case receive rw => exact step_of_placeReceive hlegal hd

/-- Settles O59: the tests of `commandOf` are the look-up in a table of distinct codes. -/
theorem dispatcherCommandCodes : Obligations.DispatcherCommandCodes := by
  intro p hp
  have hcode : ∀ {k v}, (k, v) ∈ codeTable p → commandOf p k = some v := commandOf_of_mem hp
  refine ⟨hcode ?_, hcode ?_, hcode ?_, hcode ?_, hcode ?_, hcode ?_, hcode ?_, hcode ?_,
    fun c hc => commandOf_of_not_mem hc, Command.sizeIn_eq, fun v => ⟨rfl, rfl, rfl, rfl⟩⟩
  all_goals simp [codeTable]

end Sys2Proof.Proofs
end

section
/-! PROOFS. A packet being received: what its next byte does (R115), what every other step leaves, and the packet taken
whole in one POLL (R120). -/

namespace Sys2Proof

/-! ### The bytes of a packet (R71, R74) -/

/-- A packet without its checksum byte. -/
def packetBody (a : Addr) (cmd : Byte) (d : List Byte) : List Byte :=
  hdrCmd :: encAddr a :: cmd :: encSize (declaredSize d) :: d

section
variable (a : Addr) (cmd : Byte) (d : List Byte)

theorem packet_eq_body : packet a cmd d = packetBody a cmd d ++ [sumBytes (packetBody a cmd d)] := rfl

theorem packetBody_length : (packetBody a cmd d).length = 4 + d.length := by
  simp only [packetBody, List.length_cons]
  omega

theorem packet_getElem?_of_lt {k : Nat} (hk : k < 4 + d.length) : (packet a cmd d)[k]? = (packetBody a cmd d)[k]? :=
  List.getElem?_append_left (hk.trans_eq (packetBody_length a cmd d).symm)

theorem packet_getElem?_data {j : Nat} (hj : j < d.length) : (packet a cmd d)[j + 4]? = d[j]? :=
  packet_getElem?_of_lt a cmd d (by omega)

theorem packet_take_body : (packet a cmd d).take (4 + d.length) = packetBody a cmd d := by
  rw [packet_eq_body, ← packetBody_length a cmd d, List.take_left]

theorem packet_getElem?_checksum : (packet a cmd d)[4 + d.length]? = some (sumBytes (packetBody a cmd d)) := by
  rw [packet_eq_body, ← packetBody_length a cmd d, List.getElem?_append_right le_rfl, Nat.sub_self]
  rfl

end

/-- One more byte in the sum. -/
theorem sumBytes_take_succ {l : List Byte} {k : Nat} {b : Byte} (h : l[k]? = some b) :
    sumBytes (l.take (k + 1)) = sumBytes (l.take k) + b := by
  rw [List.take_add_one, h, sumBytes, List.foldl_append]
  rfl

theorem declaredSize_toNat {d : List Byte} (hd : d.length ≤ 15) : (declaredSize d).toNat = d.length := by
  rw [declaredSize, BitVec.toNat_ofNat]
  omega

end Sys2Proof

namespace Sys2Proof.Machine

/-! ### The parser in the middle of a packet -/

section
variable {a : Addr} {cmd b : Byte} {d : List Byte} {k : Nat} {s t : State}

theorem phaseAt_of_four_le (hk : 4 ≤ k) : phaseAt d k = if k < 4 + d.length then psWFD else psWFK := by
  rw [phaseAt, if_neg, if_neg, if_neg, if_neg] <;> omega

theorem phaseAt_data (hk : 4 ≤ k) (hlt : k < 4 + d.length) : phaseAt d k = psWFD :=
  (phaseAt_of_four_le hk).trans (if_pos hlt)

theorem phaseAt_last : phaseAt d (4 + d.length) = psWFK :=
  (phaseAt_of_four_le (Nat.le_add_right _ _)).trans (if_neg (lt_irrefl _))

/-- Nothing is known of a packet before its header. -/
theorem Taken.none_yet (hp : s.ps = psWFH) : Taken a cmd d 0 s where
  phase := hp
  csum := nofun
  candAddr := nofun
  cmdReg := nofun
  sizeReg := nofun
  dcount := nofun
  data := nofun

/-- After the last data byte `csum` is the checksum of the packet (R115). -/
theorem Taken.checksum (h : Taken a cmd d (4 + d.length) s) : s.csum = sumBytes (packetBody a cmd d) := by
  rw [h.csum (by omega), packet_take_body]

/-- What a row for a packet's byte below the checksum leaves: everything but the parser, and `rxbuf` above the
packet's data. -/
def PacketFrame (n : Nat) (s t : State) : Prop :=
  t = { s with
    ps := t.ps, csum := t.csum, candAddr := t.candAddr, cmdReg := t.cmdReg, sizeReg := t.sizeReg,
    dcount := t.dcount, rxbuf := t.rxbuf } ∧
  ∀ j, n ≤ j → t.rxbuf.read j = s.rxbuf.read j

/-- The row of the packet's next byte runs and takes it (R101 to R110). -/
def TakesNext (a : Addr) (cmd : Byte) (d : List Byte) (k : Nat) (s : State) (b : Byte) : Prop :=
  ∃ i u, decode s.rxCtx (.receive (rxWord s.ps b)) = .ok i ∧ exec i s = .next u ∧ Taken a cmd d (k + 1) u ∧
    PacketFrame d.length s u

/-- The data bytes stored after one more: the old ones below the count, the new one at it. -/
theorem dataRead_succ {m : Memory} {j : Nat} (hbj : d[j]? = some b)
    (hold : ∀ i < d.length, i + 4 < j + 4 → s.rxbuf.read i = d[i]?)
    (hread : ∀ i, m.read i = if i = j then some b else s.rxbuf.read i) :
    ∀ i < d.length, i + 4 < j + 4 + 1 → m.read i = d[i]? := by
  intro i hi hij
  rw [hread]
  split_ifs with hne
  · rw [hne, hbj]
  · exact hold i hi (by omega)

section
variable (hm : s.mode = .polling)
include hm

theorem takesNext_header (hp : s.ps = psWFH) : TakesNext a cmd d 0 s hdrCmd := by
  obtain ⟨⟨hd, he⟩, -⟩ := Proofs.headerByteStartsPacket s hm hp
  refine ⟨_, _, hd, he, ?_, rfl, fun _ _ => rfl⟩
  exact { phase := rfl, csum := fun _ => rfl, candAddr := by omega, cmdReg := by omega, sizeReg := by omega,
          dcount := by omega, data := by omega }

theorem takesNext_address (h : Taken a cmd d 1 s) : TakesNext a cmd d 1 s (encAddr a) := by
  obtain ⟨htagged, -⟩ := Proofs.addressByteRecorded s (encAddr a) hm h.phase
  obtain ⟨hd, he⟩ := htagged ((addrTagged_iff_tag _).1 (addrTagged_encAddr a))
  refine ⟨_, _, hd, he, ?_, rfl, fun _ _ => rfl⟩
  exact { phase := rfl, csum := fun _ => by rw [sumBytes_take_succ (b := encAddr a) rfl, ← h.csum le_rfl],
          candAddr := fun _ => addrLow_encAddr a, cmdReg := by omega, sizeReg := by omega,
          dcount := by omega, data := by omega }

theorem takesNext_command (h : Taken a cmd d 2 s) : TakesNext a cmd d 2 s cmd := by
  obtain ⟨hd, he⟩ := Proofs.commandByteRecorded s cmd hm h.phase
  refine ⟨_, _, hd, he, ?_, rfl, fun _ _ => rfl⟩
  exact { phase := rfl, csum := fun _ => by rw [sumBytes_take_succ (b := cmd) rfl, ← h.csum (by omega)],
          candAddr := fun _ => h.candAddr le_rfl, cmdReg := fun _ => rfl, sizeReg := by omega,
          dcount := by omega, data := by omega }

theorem takesNext_size (h : Taken a cmd d 3 s) (hlen : d.length ≤ 15) :
    TakesNext a cmd d 3 s (encSize (declaredSize d)) := by
  obtain ⟨hzero, hsome, -⟩ := Proofs.sizeByteRecorded s (encSize (declaredSize d)) hm h.phase
  have hcsum : s.csum + encSize (declaredSize d) = sumBytes ((packet a cmd d).take 4) := by
    rw [sumBytes_take_succ (b := encSize (declaredSize d)) rfl, ← h.csum (by omega)]
  have hsize := sizeLow_encSize (declaredSize d)
  by_cases h0 : d.length = 0
  · obtain rfl := List.eq_nil_of_length_eq_zero h0
    obtain ⟨hd, he⟩ := hzero rfl
    refine ⟨_, _, hd, he, ?_, rfl, fun _ _ => rfl⟩
    exact { phase := rfl, csum := fun _ => hcsum, candAddr := fun _ => h.candAddr (by omega),
            cmdReg := fun _ => h.cmdReg le_rfl, sizeReg := fun _ => rfl, dcount := nofun, data := nofun }
  · have hne : sizeLow (encSize (declaredSize d)) ≠ 0#4 := by
      rw [hsize]
      intro hz
      exact h0 ((declaredSize_toNat hlen).symm.trans (congrArg BitVec.toNat hz))
    obtain ⟨hd, he⟩ := hsome ((sizeValid_iff_complement _).1 (sizeValid_encSize _)) hne
    refine ⟨_, _, hd, he, ?_, rfl, fun _ _ => rfl⟩
    exact { phase := (phaseAt_data le_rfl (by omega)).symm, csum := fun _ => hcsum,
            candAddr := fun _ => h.candAddr (by omega), cmdReg := fun _ => h.cmdReg le_rfl,
            sizeReg := fun _ => hsize, dcount := fun _ _ => rfl, data := by omega }

theorem takesNext_data {j : Nat} (h : Taken a cmd d (j + 4) s) (hlen : d.length ≤ 15) (hbj : d[j]? = some b) :
    TakesNext a cmd d (j + 4) s b := by
  obtain ⟨hj, -⟩ := List.getElem?_eq_some_iff.1 hbj
  have hp : s.ps = psWFD := h.phase.trans (phaseAt_data (by omega) (by omega))
  have hk : s.dcount.toNat = j := h.dcount (by omega) (by omega)
  have hn : s.sizeReg.toNat = d.length := by rw [h.sizeReg (by omega), declaredSize_toNat hlen]
  have hcsum : s.csum + b = sumBytes ((packet a cmd d).take (j + 4 + 1)) := by
    rw [sumBytes_take_succ ((packet_getElem?_data a cmd d hj).trans hbj), ← h.csum (by omega)]
  obtain ⟨hmore, hlast⟩ := Proofs.dataByteStored s b hm hp
  rw [hk, hn] at hmore hlast
  by_cases hlt : j + 1 < d.length
  · obtain ⟨hd, m, he, hread⟩ := hmore hlt
    refine ⟨_, _, hd, he, ?_, rfl, fun i hi => (hread i).trans (if_neg (by omega))⟩
    exact { phase := hp.trans (phaseAt_data (by omega) (by omega)).symm, csum := fun _ => hcsum,
            candAddr := fun _ => h.candAddr (by omega), cmdReg := fun _ => h.cmdReg (by omega),
            sizeReg := fun _ => h.sizeReg (by omega),
            dcount := fun _ _ => by rw [dcount_succ_toNat (n := s.sizeReg) (by omega)]; omega
            data := dataRead_succ hbj h.data hread }
  · obtain ⟨hd, m, he, hread⟩ := hlast (by omega)
    have hend : j + 4 + 1 = 4 + d.length := by omega
    refine ⟨_, _, hd, he, ?_, rfl, fun i hi => (hread i).trans (if_neg (by omega))⟩
    exact { phase := by rw [hend, phaseAt_last]; rfl, csum := fun _ => hcsum,
            candAddr := fun _ => h.candAddr (by omega), cmdReg := fun _ => h.cmdReg (by omega),
            sizeReg := fun _ => h.sizeReg (by omega), dcount := by omega
            data := dataRead_succ hbj h.data hread }

/-- In every phase the packet's next byte below the checksum is taken. -/
theorem Taken.takesNext (h : Taken a cmd d k s) (hlen : d.length ≤ 15) (hk : k < 4 + d.length)
    (hb : (packet a cmd d)[k]? = some b) : TakesNext a cmd d k s b := by
  match k, h, hb with
  | 0, h, rfl => exact takesNext_header hm h.phase
  | 1, h, rfl => exact takesNext_address hm h
  | 2, h, rfl => exact takesNext_command hm h
  | 3, h, rfl => exact takesNext_size hm h hlen
  | j + 4, h, hb => exact takesNext_data hm h hlen ((packet_getElem?_data a cmd d (by omega)).symm.trans hb)

end

theorem PacketFrame.ports {n : Nat} (h : PacketFrame n s t) :
    t.mode = s.mode ∧ t.trace = s.trace ∧ t.rxq = s.rxq ∧ t.resp = s.resp ∧ t.cfg = s.cfg ∧ t.turns = s.turns ∧
      t.rst = s.rst ∧ t.cvFault = s.cvFault ∧ t.refused = s.refused := by
  obtain ⟨ht, -⟩ := h
  rw [ht]
  exact ⟨rfl, rfl, rfl, rfl, rfl, rfl, rfl, rfl, rfl⟩

/-! ### A step that takes a byte (R116) -/

/-- The byte a step takes is decoded as it is, and its row runs on the state without it. -/
theorem step_of_takes (h : s.takes = some b) (hc : s.clean) :
    ∃ q, s.rxq = b :: q ∧ ∀ {i u}, decode s.rxCtx (.receive (rxWord s.ps b)) = .ok i →
      exec i { s with turns := s.turns.tail, rxq := q } = .next u → step s = .next u := by
  obtain ⟨hn, hr, hm, q, hq⟩ := State.takes_some h
  obtain ⟨-, hrun⟩ := Proofs.stepRunsDecoded
  exact ⟨q, hq, fun hd he => (hrun s b q _ hn hr hc hm hq hd).trans he⟩

/-- A step that takes the packet's next byte below the checksum. -/
theorem Taken.step_next (h : Taken a cmd d k s) (hlen : d.length ≤ 15) (hk : k < 4 + d.length) (hc : s.clean)
    (htakes : s.takes = some b) (hb : (packet a cmd d)[k]? = some b) :
    ∃ q u, s.rxq = b :: q ∧ step s = .next u ∧ Taken a cmd d (k + 1) u ∧
      PacketFrame d.length { s with turns := s.turns.tail, rxq := q } u := by
  obtain ⟨-, -, hm, -⟩ := State.takes_some htakes
  obtain ⟨q, hq, hstep⟩ := step_of_takes htakes hc
  have h' : Taken a cmd d k { s with turns := s.turns.tail, rxq := q } := { h with }
  obtain ⟨i, u, hd, he, hnext, hframe⟩ := Taken.takesNext (s := { s with turns := _, rxq := q }) hm h' hlen hk hb
  exact ⟨q, u, hq, hstep hd he, hnext, hframe⟩

/-- A step that takes the right checksum byte of a packet for this device accepts it (R111). -/
theorem Taken.step_accept (h : Taken a cmd d (4 + d.length) s) (hc : s.clean) (htakes : s.takes = some b)
    (hb : b = s.csum) (hmine : s.cfg.myAddr = some a) :
    ∃ q, s.rxq = b :: q ∧ step s = .next { s with
      accCmd := cmd, accSize := declaredSize d, rdCur := 0#4, txCur := 0#4, rxwin := true, txwin := true,
      ps := 0#3, mode := .idle, req := none, resp := some (.ready cmd (declaredSize d)), turns := s.turns.tail,
      rxq := q, trace := s.trace ++ [.accept cmd (declaredSize d), .resp 0x1#4 (.ready cmd (declaredSize d))] } := by
  obtain ⟨-, -, hm, -⟩ := State.takes_some htakes
  obtain ⟨q, hq, hstep⟩ := step_of_takes htakes hc
  have hown : s.cfg.myAddr = some s.candAddr := by rw [hmine, h.candAddr (by omega)]
  obtain ⟨hd, he⟩ := Proofs.matchingPacketAccepted { s with turns := s.turns.tail, rxq := q } hm
    (h.phase.trans phaseAt_last) hown
  subst hb
  exact ⟨q, hq, (hstep hd he).trans (by rw [h.cmdReg (by omega), h.sizeReg (by omega)])⟩

/-- A step that takes any other checksum byte, or one of another device's packet, discards it (R112, R113, R204). -/
theorem Taken.step_discard (h : Taken a cmd d (4 + d.length) s) (hc : s.clean) (htakes : s.takes = some b)
    (hlegal : s.cfg.addressLegal = true) (hother : b ≠ s.csum ∨ s.cfg.myAddr ≠ some a) :
    ∃ q, s.rxq = b :: q ∧ step s = .next { s with
      turns := s.turns.tail, rxq := q, ps := 0#3,
      trace := s.trace ++ [.discard (if b = s.csum then .address else .checksum)] } := by
  obtain ⟨-, -, hm, -⟩ := State.takes_some htakes
  obtain ⟨q, hq, hstep⟩ := step_of_takes htakes hc
  obtain ⟨hbad, hmiss⟩ := Proofs.otherPacketDiscarded { s with turns := s.turns.tail, rxq := q } b hm
    (h.phase.trans phaseAt_last)
  by_cases hb : b = s.csum
  · obtain ⟨a', ha'⟩ := Config.myAddr_of_legal hlegal
    have hne : s.candAddr ≠ a' := by
      rw [h.candAddr (by omega)]
      rintro rfl
      exact (hother.resolve_left (not_not_intro hb)) ha'
    obtain ⟨hd, he⟩ := hmiss a' hb ha' hne
    rw [if_pos hb]
    exact ⟨q, hq, hstep hd he⟩
  · obtain ⟨hd, he⟩ := hbad hb
    rw [if_neg hb]
    exact ⟨q, hq, hstep hd he⟩

/-- In WFH a step that takes a byte that is no header skips it (R102). -/
theorem step_skip (hp : s.ps = psWFH) (hc : s.clean) (htakes : s.takes = some b) (hb : b ≠ 0xAA#8) :
    ∃ q, s.rxq = b :: q ∧ step s = .next { s with turns := s.turns.tail, rxq := q, csum := b } := by
  obtain ⟨-, -, hm, -⟩ := State.takes_some htakes
  obtain ⟨q, hq, hstep⟩ := step_of_takes htakes hc
  obtain ⟨-, hskip⟩ := Proofs.headerByteStartsPacket { s with turns := s.turns.tail, rxq := q } hm hp
  obtain ⟨hd, he⟩ := hskip b hb
  exact ⟨q, hq, hstep hd he⟩

/-! ### A step that takes no byte -/

/-- The parser and the packet's data are kept, and no event says that a packet was accepted or discarded. -/
def KeepsPacket (s t : State) : Prop :=
  (t.ps = s.ps ∧ t.csum = s.csum ∧ t.candAddr = s.candAddr ∧ t.cmdReg = s.cmdReg ∧ t.sizeReg = s.sizeReg ∧
    t.dcount = s.dcount ∧ t.rxbuf = s.rxbuf) ∧
  ∃ l, t.trace = s.trace ++ l ∧ ∀ e ∈ l, e.quiet = true

theorem KeepsPacket.taken (h : KeepsPacket s t) (hs : Taken a cmd d k s) : Taken a cmd d k t := by
  obtain ⟨⟨hps, hcsum, haddr, hcmd, hsize, hcount, hbuf⟩, -⟩ := h
  constructor
  · rw [hps]; exact hs.phase
  · rw [hcsum]; exact hs.csum
  · rw [haddr]; exact hs.candAddr
  · rw [hcmd]; exact hs.cmdReg
  · rw [hsize]; exact hs.sizeReg
  · rw [hcount]; exact hs.dcount
  · rw [hbuf]; exact hs.data

theorem keepsPacket_silent (hparser : t.ps = s.ps ∧ t.csum = s.csum ∧ t.candAddr = s.candAddr ∧
      t.cmdReg = s.cmdReg ∧ t.sizeReg = s.sizeReg ∧ t.dcount = s.dcount ∧ t.rxbuf = s.rxbuf)
    (htrace : t.trace = s.trace) : KeepsPacket s t :=
  ⟨hparser, [], by rw [htrace, List.append_nil], nofun⟩

theorem RequestEffect.keepsPacket {op : BitVec 4} (he : RequestEffect s op t) : KeepsPacket s t := by
  cases he with
  | poll => exact keepsPacket_silent ⟨rfl, rfl, rfl, rfl, rfl, rfl, rfl⟩ rfl
  | ack | pop | push | violation =>
    exact ⟨⟨rfl, rfl, rfl, rfl, rfl, rfl, rfl⟩, [_], rfl, by simp [Event.quiet]⟩

/-- The engine takes a byte in a POLL with RXQ not empty, and else keeps the packet. -/
theorem EngineEffect.keepsPacket (he : EngineEffect s t) (htakes : s.mode = .polling → s.rst = false → s.rxq = []) :
    KeepsPacket s t := by
  cases he with
  | request r hr hm hq he => exact he.keepsPacket
  | noRow hr hm hq | row b q hr hm hq => cases hq.symm.trans (htakes hm hr)
  | notReady => exact ⟨⟨rfl, rfl, rfl, rfl, rfl, rfl, rfl⟩, [_], rfl, by simp [Event.quiet]⟩
  | sent => exact ⟨⟨rfl, rfl, rfl, rfl, rfl, rfl, rfl⟩, _, rfl, by simp [Event.quiet]⟩
  | ended => exact ⟨⟨rfl, rfl, rfl, rfl, rfl, rfl, rfl⟩, [_, _], List.append_assoc _ _ _, by simp [Event.quiet]⟩
  | _ => exact keepsPacket_silent ⟨rfl, rfl, rfl, rfl, rfl, rfl, rfl⟩ rfl

theorem StepEffect.keepsPacket (he : StepEffect s t) (hrst : s.nextTurn ≠ .rst true) (htakes : s.takes = none) :
    KeepsPacket s t := by
  cases he with
  | reset level hn he =>
    cases he with
    | asserted hl => exact absurd (hl ▸ hn) hrst
    | _ => exact keepsPacket_silent ⟨rfl, rfl, rfl, rfl, rfl, rfl, rfl⟩ rfl
  | engine hn hc he =>
    refine he.keepsPacket (s := s.popTurn) fun hm hr => ?_
    rw [State.takes, if_pos ⟨hn, hr, hm⟩] at htakes
    exact List.head?_eq_none_iff.1 htakes
  | agent hn hr hc he => cases he <;> exact keepsPacket_silent ⟨rfl, rfl, rfl, rfl, rfl, rfl, rfl⟩ rfl

/-- A step that takes a byte is a step of a run that is not over. -/
theorem clean_of_takes (htakes : s.takes = some b) (hstep : step s = .next t) : s.clean := by
  obtain ⟨hn, -⟩ := State.takes_some htakes
  cases step_effect hstep with
  | reset level hn' => cases hn.symm.trans hn'
  | engine hn' hc | agent hn' hr hc => exact hc

end

end Sys2Proof.Machine

namespace Sys2Proof.Proofs

open Sys2Proof Sys2Proof.Machine

/-- Settles O58: a step that takes no byte keeps the packet; one that takes a byte runs the row of its phase. -/
theorem packetProgress : Obligations.PacketProgress := by
  intro a cmd d k s t hlen hk h hrst hstep
  constructor
  · intro htakes
    have hkeeps := (step_effect hstep).keepsPacket hrst htakes
    exact ⟨hkeeps.taken h, hkeeps.2⟩
  intro b htakes
  have hc := clean_of_takes htakes hstep
  obtain ⟨-, -, hm, -⟩ := State.takes_some htakes
  have hcheck : k = 4 + d.length → (packet a cmd d)[k]? = some s.csum := by
    rintro rfl
    rw [packet_getElem?_checksum, h.checksum]
  refine ⟨?_, ?_, ?_, ?_⟩
  · intro hlt hb
    obtain ⟨q, u, -, hu, hnext, hframe⟩ := h.step_next hlen hlt hc htakes hb
    cases hstep.symm.trans hu
    obtain ⟨hmode, htrace, -⟩ := hframe.ports
    exact ⟨hnext, hmode.trans hm, htrace⟩
  · rintro rfl hb
    obtain ⟨q, -, hu⟩ := step_skip h.phase hc htakes hb
    cases hstep.symm.trans hu
    exact ⟨.none_yet h.phase, hm, rfl⟩
  · intro hend hb hmine
    have hbc : b = s.csum := Option.some.inj (hb.symm.trans (hcheck hend))
    subst hend
    obtain ⟨q, -, hu⟩ := h.step_accept hc htakes hbc hmine
    cases hstep.symm.trans hu
    exact ⟨rfl, rfl, rfl, rfl, rfl, rfl, rfl, rfl, fun i hi => h.data i hi (by omega), rfl, rfl⟩
  · intro hend hlegal hother
    have hright : (packet a cmd d)[k]? = some b ↔ b = s.csum := by rw [hcheck hend, Option.some.injEq, eq_comm]
    simp only [Ne, hright] at hother ⊢
    subst hend
    obtain ⟨q, -, hu⟩ := h.step_discard hc htakes hlegal hother
    cases hstep.symm.trans hu
    exact ⟨hm, rfl, rfl, rfl⟩

end Sys2Proof.Proofs
end

section
/-! PROOFS. A packet and noise taken in one POLL, the engine alone moving (R115, R120). -/

namespace Sys2Proof.Machine

theorem stepN_trans {m n : Nat} {t : State} {o : Option State} (hn : stepN n t = o) :
    ∀ {s : State}, stepN m s = some t → stepN (m + n) s = o := by
  induction m with
  | zero =>
    rintro s ⟨⟩
    rwa [Nat.zero_add]
  | succ m ih =>
    intro s hs
    rw [Nat.succ_add]
    cases h : step s with
    | next u => exact stepN_of_step h (ih (by simpa only [stepN, h] using hs))
    | fault r | refused r => simp only [stepN, h, reduceCtorEq] at hs

section
variable {s t u : State} {b : Byte} {q : List Byte}

theorem takes_of_engineNext (hn : Stated.engineNext s) (hm : s.mode = .polling) (hq : s.rxq = b :: q) :
    s.takes = some b := by
  obtain ⟨ht, hr, -⟩ := hn
  simp [State.takes, State.nextTurn, ht, hr, hm, hq]

theorem turns_tail_of_engineNext (hn : Stated.engineNext s) : s.turns.tail = s.turns := by
  rw [hn.1]
  rfl

theorem PacketFrame.trans {n : Nat} (h : PacketFrame n s t) (h' : PacketFrame n t u) : PacketFrame n s u := by
  obtain ⟨ht, hread⟩ := h
  obtain ⟨hu, hread'⟩ := h'
  refine ⟨?_, fun j hj => (hread' j hj).trans (hread j hj)⟩
  rw [hu, ht]

theorem PacketFrame.withRxq {n : Nat} (h : PacketFrame n s t) (q : List Byte) :
    PacketFrame n { s with rxq := q } { t with rxq := q } :=
  ⟨congrArg (fun v : State => { v with rxq := q }) h.1, h.2⟩

theorem PacketFrame.engineNext {n : Nat} (h : PacketFrame n s t) (hn : Stated.engineNext s) :
    Stated.engineNext t := by
  obtain ⟨-, -, -, -, -, ht, hr, hcv, href⟩ := h.ports
  obtain ⟨hturns, hrst, hclean⟩ := hn
  exact ⟨ht.trans hturns, hr.trans hrst, hcv.trans hclean.1, href.trans hclean.2⟩

/-- One POLL takes the packet up to its last data byte, from any byte on. -/
theorem stepN_packetBody {a : Addr} {cmd : Byte} {d : List Byte} (hlen : d.length ≤ 15) (n : Nat) :
    ∀ {k : Nat} {s : State}, k + n = 4 + d.length → Stated.engineNext s → s.mode = .polling → Taken a cmd d k s →
      s.rxq = (packetBody a cmd d).drop k ++ q →
      ∃ t, stepN n s = some t ∧ Taken a cmd d (4 + d.length) t ∧ t.rxq = q ∧
        PacketFrame d.length { s with rxq := q } t := by
  induction n with
  | zero =>
    rintro k s rfl hn hm h hq
    rw [List.drop_of_length_le (packetBody_length a cmd d).le, List.nil_append] at hq
    subst hq
    exact ⟨s, rfl, h, rfl, rfl, fun _ _ => rfl⟩
  | succ n ih =>
    intro k s hk hn hm h hq
    have hlt : k < (packetBody a cmd d).length := by rw [packetBody_length]; omega
    rw [List.drop_eq_getElem_cons hlt, List.cons_append] at hq
    have hb := (packet_getElem?_of_lt a cmd d (by omega)).trans (List.getElem?_eq_getElem hlt)
    obtain ⟨q', u, hq', hu, hnext, hframe⟩ := h.step_next hlen (by omega) hn.2.2 (takes_of_engineNext hn hm hq) hb
    obtain ⟨-, rfl⟩ := List.cons.inj (hq'.symm.trans hq)
    rw [turns_tail_of_engineNext hn] at hframe
    obtain ⟨hmode, -, hrest, -⟩ := hframe.ports
    obtain ⟨t, hsteps, hlast, htq, hframe'⟩ := ih (by omega) (hframe.engineNext hn) (hmode.trans hm) hnext hrest
    exact ⟨t, stepN_of_step hu hsteps, hlast, htq, (hframe.withRxq q).trans hframe'⟩

end

end Sys2Proof.Machine

namespace Sys2Proof.Proofs

open Sys2Proof Sys2Proof.Machine

/-- Settles O17: the progress of O58, byte by byte. -/
theorem checksumLaw : Obligations.ChecksumLaw := by
  intro s a cmd d q hn hm hp hlen hq
  obtain ⟨t, hsteps, h, htq, hframe⟩ := stepN_packetBody hlen _ (Nat.zero_add _) hn hm (.none_yet hp) hq
  obtain ⟨hmode, htrace, -⟩ := hframe.ports
  exact ⟨t, hsteps, h.phase.trans phaseAt_last, htq, hmode.trans hm, h.checksum, h.candAddr (by omega),
    h.cmdReg (by omega), h.sizeReg (by omega), fun k hk => h.data k hk (by omega), hframe.2, htrace⟩

/-- Settles O18: the packet up to its last data byte, and the checksum byte that accepts it. -/
theorem wellFormedPacketAccepted : Obligations.WellFormedPacketAccepted := by
  intro s a cmd d q hn hm hp hlen hmine hq
  rw [packet_eq_body, List.append_assoc] at hq
  obtain ⟨t, hsteps, h, htq, hframe⟩ := stepN_packetBody hlen _ (Nat.zero_add _) hn hm (.none_yet hp) hq
  obtain ⟨hmode, htrace, -, -, hcfg, -⟩ := hframe.ports
  have hn' := hframe.engineNext hn
  obtain ⟨q', hq', hu⟩ := h.step_accept hn'.2.2 (takes_of_engineNext hn' (hmode.trans hm) htq) h.checksum.symm
    (by rw [hcfg, hmine])
  obtain ⟨-, rfl⟩ := List.cons.inj (htq.symm.trans hq')
  rw [show 5 + d.length = 4 + d.length + 1 by omega]
  exact ⟨_, stepN_trans (stepN_of_step hu rfl) hsteps, rfl, rfl, rfl, rfl, rfl, rfl, rfl, rfl, rfl, rfl,
    fun k hk => h.data k hk (by omega), congrArg (· ++ _) htrace⟩

/-- Settles O19: the packet up to its last data byte, and the byte at which it is discarded. -/
theorem corruptOrForeignPacketDropped : Obligations.CorruptOrForeignPacketDropped := by
  intro s a cmd x ck d q hn hm hp hlen hlegal hq hck hother
  obtain ⟨t, hsteps, h, htq, hframe⟩ := stepN_packetBody hlen _ (Nat.zero_add _) hn hm (.none_yet hp) hq
  obtain ⟨hmode, htrace, -, hresp, hcfg, -⟩ := hframe.ports
  have hn' := hframe.engineNext hn
  obtain rfl : ck = t.csum := hck.trans h.checksum.symm
  obtain ⟨q', hq', hu⟩ := h.step_discard hn'.2.2 (takes_of_engineNext hn' (hmode.trans hm) htq)
    (by rw [hcfg]; exact hlegal) (by rw [hcfg]; exact hother)
  obtain ⟨-, rfl⟩ := List.cons.inj (htq.symm.trans hq')
  rw [show 5 + d.length = 4 + d.length + 1 by omega]
  exact ⟨_, stepN_trans (stepN_of_step hu rfl) hsteps, hmode.trans hm, rfl, rfl, hresp, congrArg (· ++ _) htrace⟩

/-- Settles O20: by induction on the noise, each byte is skipped. -/
theorem noiseWithoutHeaderSkipped : Obligations.NoiseWithoutHeaderSkipped := by
  intro l
  induction l with
  | nil =>
    rintro s q - - - - rfl
    rfl
  | cons b l ih =>
    intro s q hn hm hp hnoise hq
    obtain ⟨hb, hl⟩ := not_or.1 (mt List.mem_cons.2 hnoise)
    obtain ⟨q', hq', hu⟩ := step_skip hp hn.2.2 (takes_of_engineNext hn hm hq) (Ne.symm hb)
    obtain ⟨-, rfl⟩ := List.cons.inj (hq'.symm.trans hq)
    rw [turns_tail_of_engineNext hn] at hu
    rw [List.getLastD_cons]
    exact stepN_of_step hu (ih { s with rxq := l ++ q, csum := b } q hn hm hp hl rfl)

end Sys2Proof.Proofs
end

section
/-! PROOFS. The values that R41 leaves unspecified are unobservable: every operation takes two states that differ only
in them to two such states, or stops both for the same reason. -/

namespace Sys2Proof.Machine

/-- Both outcomes are of the same kind: next states that cannot be told apart, or one reason. -/
def SameOutcome (o o' : Host.Outcome State Fault Refusal) : Prop :=
  match o, o' with
  | .next s, .next t => SameVisible s t
  | .fault r, .fault r' => r' = r
  | .refused r, .refused r' => r' = r
  | _, _ => False

theorem Memory.readBytes_congr {m m' : Memory} (n : Nat) : ∀ {i : Nat},
    (∀ j, i ≤ j → j < i + n → m'.read j = m.read j) → m'.readBytes i n = m.readBytes i n := by
  induction n with
  | zero => intro i _; rfl
  | succ n ih =>
    intro i h
    rw [Memory.readBytes, Memory.readBytes, h i le_rfl (by omega), ih fun j hij hj => h j (by omega) (by omega)]

theorem rstTurn_low {s : State} (hr : s.rst = false) : rstTurn false s = s := by simp [rstTurn, hr]

theorem configTurn_same {s : State} {c : ConfigInputs} (hr : s.rst = false) (hc : c = s.cfg.toConfigInputs) :
    configTurn c s = s := by simp [configTurn, hr, hc]

section
variable {s t : State} (h : SameVisible s t)
include h

/-! ### What is the same in both states -/

theorem SameVisible.ps_eq : t.ps = s.ps := by rw [h.visible]
theorem SameVisible.mode_eq : t.mode = s.mode := by rw [h.visible]
theorem SameVisible.rst_eq : t.rst = s.rst := by rw [h.visible]
theorem SameVisible.cfg_eq : t.cfg = s.cfg := by rw [h.visible]
theorem SameVisible.req_eq : t.req = s.req := by rw [h.visible]
theorem SameVisible.resp_eq : t.resp = s.resp := by rw [h.visible]
theorem SameVisible.rxq_eq : t.rxq = s.rxq := by rw [h.visible]
theorem SameVisible.hostq_eq : t.hostq = s.hostq := by rw [h.visible]
theorem SameVisible.txFlushed_eq : t.txFlushed = s.txFlushed := by rw [h.visible]
theorem SameVisible.rxwin_eq : t.rxwin = s.rxwin := by rw [h.visible]
theorem SameVisible.rdCur_eq : t.rdCur = s.rdCur := by rw [h.visible]
theorem SameVisible.txCur_eq : t.txCur = s.txCur := by rw [h.visible]
theorem SameVisible.cvFault_eq : t.cvFault = s.cvFault := by rw [h.visible]
theorem SameVisible.refused_eq : t.refused = s.refused := by rw [h.visible]
theorem SameVisible.trace_eq : t.trace = s.trace := by rw [h.visible]
theorem SameVisible.nextTurn_eq : t.nextTurn = s.nextTurn := (congrArg State.nextTurn h.visible :)
theorem SameVisible.hostReady_eq : t.hostReady = s.hostReady := (congrArg State.hostReady h.visible :)
theorem SameVisible.ackCheck_eq : ackCheck t = ackCheck s := (congrArg ackCheck h.visible :)
theorem SameVisible.pushCheck_eq (w : Nat) : pushCheck t w = pushCheck s w := (congrArg (pushCheck · w) h.visible :)

/-- The size of the accepted payload is compared inside the window only (R137). -/
theorem SameVisible.popCheck_eq (w : Nat) : popCheck t w = popCheck s w := by
  unfold popCheck
  rw [h.rxwin_eq, h.rdCur_eq]
  cases hwin : s.rxwin with
  | false => rfl
  | true => rw [h.accSize hwin]

/-- A pop inside the payload reads the same bytes. -/
theorem SameVisible.popValue_eq {w : Width} (signed : Bool) (hcheck : popCheck s w.bytes = none) :
    t.popValue w signed = s.popValue w signed := by
  obtain ⟨hwin, hfits⟩ := popCheck_none.1 hcheck
  unfold State.popValue
  rw [h.rdCur_eq, Memory.readBytes_congr _ fun j _ hj => h.payload hwin j (by omega)]

/-- The reply encoder reads pushed bytes only. -/
theorem SameVisible.replyFrame_eq : t.replyFrame = s.replyFrame := by
  unfold State.replyFrame
  rw [h.txCur_eq, h.cfg_eq, Memory.readBytes_congr _ fun j _ hj => h.pushed j (by omega)]

/-- The decoder reads in WFD and WFK only what the packet wrote (R41). -/
theorem SameVisible.decode_eq (b : Byte) :
    decode t.rxCtx (.receive (rxWord t.ps b)) = decode s.rxCtx (.receive (rxWord s.ps b)) := by
  rw [decode_rxWord, decode_rxWord, h.ps_eq]
  refine decodeReceive_congr b (fun hp => ⟨h.dcount hp, h.sizeReg (.inl hp)⟩) fun hp => ?_
  have haddr : t.candAddr = s.candAddr := h.candAddr (by rw [hp]; decide) (by rw [hp]; decide)
  have hmy : t.rxCtx.myAddr = s.rxCtx.myAddr := congrArg Config.myAddr h.cfg_eq
  exact ⟨h.csum (by rw [hp]; decide), by rw [hmy], by rw [hmy]; exact iff_of_eq (congrArg (_ = some ·) haddr)⟩

/-! ### The shared operations -/

theorem SameVisible.popTurn : SameVisible s.popTurn t.popTurn :=
  { h with visible := congrArg State.popTurn h.visible }

theorem SameVisible.violate (r : Violation) : SameVisible (s.violate r) (t.violate r) :=
  { h with visible := congrArg (State.violate · r) h.visible }

theorem SameVisible.refuse (r : RefuseReason) : SameVisible (s.refuse r) (t.refuse r) :=
  { h with visible := congrArg (State.refuse · r) h.visible }

theorem SameVisible.present (r : Request) : SameVisible (s.present r) (t.present r) :=
  { h with visible := congrArg (State.present · r) h.visible }

theorem SameVisible.respond (op : BitVec 4) (x : Response) : SameVisible (s.respond op x) (t.respond op x) :=
  { h with visible := congrArg (State.respond · op x) h.visible }

theorem SameVisible.emit (e : Event) : SameVisible (s.emit e) (t.emit e) :=
  { h with visible := congrArg (State.emit · e) h.visible }

theorem SameVisible.withMode (m : Mode) : SameVisible { s with mode := m } { t with mode := m } :=
  { h with visible := congrArg (fun v : State => { v with mode := m }) h.visible }

theorem SameVisible.dropByte (q : List Byte) : SameVisible { s with rxq := q } { t with rxq := q } :=
  { h with visible := congrArg (fun v : State => { v with rxq := q }) h.visible }

/-! ### Requests -/

theorem sameOutcome_whenIdle {o o' : Host.Outcome State Fault Refusal} (ho : SameOutcome o o') :
    SameOutcome (whenIdle s o) (whenIdle t o') := by
  unfold whenIdle
  rw [h.mode_eq]
  split
  · exact ho
  · exact rfl

theorem sameOutcome_poll : SameOutcome (exec .poll s) (exec .poll t) :=
  sameOutcome_whenIdle h
    { h with
      visible := congrArg (fun v : State => { v with rxwin := false, txwin := false, mode := .polling }) h.visible
      accSize := nofun
      payload := nofun }

theorem sameOutcome_ack : SameOutcome (execAck s) (execAck t) := by
  refine sameOutcome_whenIdle h ?_
  rw [h.ackCheck_eq]
  split
  next r _ => exact h.violate r
  next =>
    exact { h with
      visible := congrArg
        (fun v : State => { v with txwin := false, txEn := true, mode := .ackPre }.emit .txEnRise) h.visible }

theorem sameOutcome_pop (op : BitVec 4) (w : Width) (signed : Bool) :
    SameOutcome (pop op w signed s) (pop op w signed t) := by
  refine sameOutcome_whenIdle h ?_
  rw [h.popCheck_eq]
  split
  next r _ => exact h.violate r
  next hcheck =>
    rw [h.popValue_eq signed hcheck]
    split
    next => exact rfl
    next v _ =>
      exact { h with
        visible := congrArg (fun u : State =>
          { u with rdCur := u.rdCur + BitVec.ofNat 4 w.bytes }.respond op (.value v)) h.visible }

/-- Both pushes write the same bytes behind the same pushed ones. -/
theorem SameVisible.pushed_writeBytes {w : Width} (x : Word32) (hfits : s.txCur.toNat + w.bytes ≤ 15) :
    ∀ i < (s.txCur + BitVec.ofNat 4 w.bytes).toNat,
      (t.txbuf.writeBytes t.txCur.toNat (beBytes w x)).read i =
        (s.txbuf.writeBytes s.txCur.toNat (beBytes w x)).read i := by
  intro i hi
  rw [cursor_toNat w hfits] at hi
  rw [h.txCur_eq, Memory.read_writeBytes, Memory.read_writeBytes, beBytes_length]
  split_ifs with hin
  · rfl
  · exact h.pushed i (by omega)

theorem sameOutcome_push (op : BitVec 4) (w : Width) (x : Word32) :
    SameOutcome (push op w x s) (push op w x t) := by
  refine sameOutcome_whenIdle h ?_
  rw [h.pushCheck_eq]
  split
  next r _ => exact h.violate r
  next hcheck =>
    exact { h with
      visible := congrArg (fun u : State =>
        { u with
          txbuf := t.txbuf.writeBytes t.txCur.toNat (beBytes w x)
          txCur := u.txCur + BitVec.ofNat 4 w.bytes }.respond op .done) h.visible
      pushed := h.pushed_writeBytes x (pushCheck_none.1 hcheck).2 }

theorem sameOutcome_request {i : Instr} (hi : Stated.isRequest i) : SameOutcome (exec i s) (exec i t) := by
  rcases i.family with rfl | rfl | hpop | ⟨x, hpush⟩ | hrow
  · exact sameOutcome_poll h
  · exact sameOutcome_ack h
  · obtain ⟨op, w, signed, -, he⟩ := exec_isPop hpop
    rw [he, he]
    exact sameOutcome_pop h op w signed
  · obtain ⟨op, w, -, he⟩ := exec_isPush hpush
    rw [he, he]
    exact sameOutcome_push h op w x
  · exact absurd hi hrow

/-! ### The receive rows -/

/-- Before the data bytes a packet needs the sum, the address and the command that it wrote. -/
theorem SameVisible.beforeData {p : BitVec 3} {c c' cmd cmd' : Byte} {a a' : Addr} {n n' : Nibble} (hp : p.toNat ≤ 3)
    (hc : p ≠ psWFH → c' = c) (ha : p ≠ psWFH → p ≠ psWFA → a' = a)
    (hcmd : p = psWFS → cmd' = cmd) :
    SameVisible { s with ps := p, csum := c, candAddr := a, cmdReg := cmd, sizeReg := n }
      { t with ps := p, csum := c', candAddr := a', cmdReg := cmd', sizeReg := n' } := by
  have hdata : p ≠ psWFD := by rintro rfl; exact absurd hp (by decide)
  have hcheck : p ≠ psWFK := by rintro rfl; exact absurd hp (by decide)
  exact { h with
    visible := congrArg (fun v : State => { v with
      ps := p, csum := c', candAddr := a', cmdReg := cmd', sizeReg := n' }) h.visible
    csum := hc
    candAddr := ha
    cmdReg := fun hp' => hcmd (hp'.resolve_right (not_or.2 ⟨hdata, hcheck⟩))
    sizeReg := fun hp' => absurd hp' (not_or.2 ⟨hdata, hcheck⟩)
    dcount := fun hp' => absurd hp' hdata
    dataBytes := fun hp' => absurd hp' hdata
    packetBytes := fun hp' => absurd hp' hcheck }

/-- A packet that ended leaves nothing that is read before it is written again. -/
theorem SameVisible.ended {c c' : Byte} {a a' : Addr} {n n' : Nibble} :
    SameVisible { s with ps := psWFH, csum := c, candAddr := a, sizeReg := n }
      { t with ps := psWFH, csum := c', candAddr := a', sizeReg := n' } :=
  h.beforeData (by decide) (fun hne => absurd rfl hne) (fun hne => absurd rfl hne) nofun

theorem SameVisible.skip (b : Byte) : SameVisible { s with csum := b } { t with csum := b } :=
  { h with
    visible := congrArg (fun v : State => { v with csum := b }) h.visible
    csum := fun _ => rfl }

theorem SameVisible.csum_add (hp : s.ps ≠ psWFH) (b : Byte) : t.csum + b = s.csum + b := by rw [h.csum hp]

theorem SameVisible.sizeZero (hp : s.ps = psWFS) (b : Byte) :
    SameVisible { s with csum := s.csum + b, sizeReg := 0#4, ps := psWFK }
      { t with csum := t.csum + b, sizeReg := 0#4, ps := psWFK } :=
  { h with
    visible := congrArg (fun v : State => { v with csum := v.csum + b, sizeReg := 0#4, ps := psWFK }) h.visible
    csum := fun _ => h.csum_add (by rw [hp]; decide) _
    candAddr := fun _ _ => h.candAddr (by rw [hp]; decide) (by rw [hp]; decide)
    cmdReg := fun _ => h.cmdReg (.inl hp)
    sizeReg := fun _ => rfl
    dcount := nofun
    dataBytes := nofun
    packetBytes := fun _ i hi => absurd hi (Nat.not_lt_zero i) }

theorem SameVisible.size (hp : s.ps = psWFS) (b : Byte) (n : Nibble) :
    SameVisible { s with csum := s.csum + b, sizeReg := n, dcount := 0#4, ps := psWFD }
      { t with csum := t.csum + b, sizeReg := n, dcount := 0#4, ps := psWFD } :=
  { h with
    visible := congrArg
      (fun v : State => { v with csum := v.csum + b, sizeReg := n, dcount := 0#4, ps := psWFD }) h.visible
    csum := fun _ => h.csum_add (by rw [hp]; decide) _
    candAddr := fun _ _ => h.candAddr (by rw [hp]; decide) (by rw [hp]; decide)
    cmdReg := fun _ => h.cmdReg (.inl hp)
    sizeReg := fun _ => rfl
    dcount := fun _ => rfl
    dataBytes := fun _ i hi => absurd hi (Nat.not_lt_zero i)
    packetBytes := nofun }

/-- Both data rows write the same byte at the same index, so bytes that were equal stay equal. -/
theorem SameVisible.read_write (hp : s.ps = psWFD) (b : Byte) {i : Nat}
    (hi : i ≠ s.dcount.toNat → t.rxbuf.read i = s.rxbuf.read i) :
    (t.rxbuf.write t.dcount.toNat b).read i = (s.rxbuf.write s.dcount.toNat b).read i := by
  rw [h.dcount hp, Memory.read_write, Memory.read_write]
  split_ifs with hne
  · rfl
  · exact hi hne

theorem SameVisible.data (hp : s.ps = psWFD) (b : Byte) (hc : s.dcount.toNat + 1 < s.sizeReg.toNat) :
    SameVisible (s.storeData b) (t.storeData b) :=
  { h with
    visible := congrArg (State.storeData · b) h.visible
    csum := fun hne => h.csum_add hne _
    dcount := fun _ => congrArg (· + 1#4) (h.dcount hp)
    dataBytes := fun _ i hi => h.read_write hp b fun hne => h.dataBytes hp i (by
      rw [State.storeData_dcount, dcount_succ_toNat hc.le] at hi
      omega)
    packetBytes := fun hk => absurd (hp.symm.trans hk) (by decide)
    payload := fun hwin i hi => h.read_write hp b fun _ => h.payload hwin i hi }

theorem SameVisible.dataLast (hp : s.ps = psWFD) (b : Byte) (hc : s.dcount.toNat + 1 = s.sizeReg.toNat) :
    SameVisible { s.storeData b with ps := psWFK } { t.storeData b with ps := psWFK } :=
  { h with
    visible := congrArg (fun v : State => { v.storeData b with ps := psWFK }) h.visible
    csum := fun _ => h.csum_add (by rw [hp]; decide) _
    candAddr := fun _ _ => h.candAddr (by rw [hp]; decide) (by rw [hp]; decide)
    cmdReg := fun _ => h.cmdReg (.inr (.inl hp))
    sizeReg := fun _ => h.sizeReg (.inl hp)
    dcount := nofun
    dataBytes := nofun
    packetBytes := fun _ i hi => h.read_write hp b fun hne => h.dataBytes hp i (by
      rw [State.storeData_sizeReg, ← hc] at hi
      omega)
    payload := fun hwin i hi => h.read_write hp b fun _ => h.payload hwin i hi }

/-- An acceptance shows the command and the size of the packet, which are the same in WFK. -/
theorem SameVisible.accept (hp : s.ps = psWFK) :
    SameVisible (s.accept.respond opPoll (.ready s.cmdReg s.sizeReg))
      (t.accept.respond opPoll (.ready t.cmdReg t.sizeReg)) := by
  have hcmd := h.cmdReg (.inr (.inr hp))
  have hsize := h.sizeReg (.inr hp)
  have hended := h.ended (c := s.csum) (c' := t.csum) (a := s.candAddr) (a' := t.candAddr) (n := s.sizeReg)
    (n' := t.sizeReg)
  refine { hended with
    visible := ?_
    accSize := fun _ => hsize
    payload := fun _ => h.packetBytes hp
    pushed := fun i hi => absurd hi (Nat.not_lt_zero i) }
  refine (congrArg (fun v : State => v.accept.respond opPoll (.ready v.cmdReg v.sizeReg)) h.visible).trans ?_
  dsimp only [State.accept, State.respond]
  rw [hcmd, hsize]

/-- The row that both states choose for a byte. -/
theorem SameVisible.row {u v : State} {b : Byte} {i : Instr} (hd : decodeReceive s.rxCtx s.ps b = .ok i)
    (hs : exec i s = .next u) (ht : exec i t = .next v) : SameVisible u v := by
  rcases decodeReceive_ok hd with ⟨hp, -, rfl⟩ | ⟨hp, -, rfl⟩ | ⟨hp, -, rfl⟩ | ⟨hp, -, rfl⟩ | ⟨hp, rfl⟩ |
    ⟨hp, -, -, rfl⟩ | ⟨hp, -, -, rfl⟩ | ⟨hp, -, rfl⟩ | ⟨hp, hc, rfl⟩ | ⟨hp, hc, rfl⟩ | ⟨hp, -, -, rfl⟩ |
    ⟨hp, -, rfl⟩ | ⟨hp, -, -, -, rfl⟩ <;>
    obtain ⟨-, -, -, rfl⟩ := onRow_next hs <;> obtain ⟨-, -, -, rfl⟩ := onRow_next ht
  · exact h.beforeData (by decide) (fun _ => rfl) (fun _ hne => absurd rfl hne) nofun
  · exact h.skip b
  · exact h.beforeData (by decide) (fun _ => h.csum_add (by rw [hp]; decide) _) (fun _ _ => rfl) nofun
  · exact h.ended.emit (.discard .addrTag)
  · exact h.beforeData (by decide) (fun _ => h.csum_add (by rw [hp]; decide) _)
      (fun _ _ => h.candAddr (by rw [hp]; decide) (by rw [hp]; decide)) (fun _ => rfl)
  · exact h.sizeZero hp _
  · exact h.size hp _ _
  · exact h.ended.emit (.discard .sizeNibble)
  · exact h.data hp b hc
  · exact h.dataLast hp b hc
  · exact h.accept hp
  · exact h.ended.emit (.discard .checksum)
  · exact h.ended.emit (.discard .address)

/-! ### The engine -/

theorem sameOutcome_idleStep : SameOutcome (idleStep s) (idleStep t) := by
  unfold idleStep
  rw [h.req_eq]
  split
  next => exact h
  next r _ =>
    simp only [decode]
    split
    next i hd =>
      obtain ⟨y, hi⟩ := decodeRequest_ok hd
      exact sameOutcome_request h ⟨_, y, hi⟩
    next e _ => exact h.refuse e

theorem sameOutcome_pollStep (hm : s.mode = .polling) : SameOutcome (pollStep s) (pollStep t) := by
  cases hq : s.rxq with
  | nil =>
    rw [pollStep_of_empty hq, pollStep_of_empty (h.rxq_eq.trans hq)]
    exact (h.withMode .idle).respond opPoll .notReady
  | cons b q =>
    cases hd : decode s.rxCtx (.receive (rxWord s.ps b)) with
    | error e =>
      rw [pollStep_of_error hq hd, pollStep_of_error (h.rxq_eq.trans hq) ((h.decode_eq b).trans hd)]
      exact h.refuse e
    | ok i =>
      have hd' := (h.decode_eq b).trans hd
      rw [pollStep_of_byte hq hd, pollStep_of_byte (h.rxq_eq.trans hq) hd']
      obtain ⟨u, hu⟩ := exec_of_decode (s := { s with rxq := q }) hm hd
      obtain ⟨v, hv⟩ := exec_of_decode (s := { t with rxq := q }) (h.mode_eq.trans hm) hd'
      rw [hu, hv]
      exact (h.dropByte q).row ((decode_rxWord _ _ _).symm.trans hd) hu hv

theorem sameOutcome_ackSendStep : SameOutcome (ackSendStep s) (ackSendStep t) := by
  cases hf : s.replyFrame with
  | none => simp only [ackSendStep, h.replyFrame_eq, hf, SameOutcome]
  | some p =>
    obtain ⟨ck, f⟩ := p
    rw [ackSendStep_of_replyFrame hf, ackSendStep_of_replyFrame (h.replyFrame_eq.trans hf)]
    exact { h with
      visible := congrArg (fun v : State => { v with
        txCsum := ck, mode := .ackFlush, txq := v.txq ++ f, txFlushed := false,
        trace := v.trace ++ f.map Event.txByte }) h.visible }

theorem sameOutcome_ackFlushStep : SameOutcome (ackFlushStep s) (ackFlushStep t) := by
  by_cases hf : s.txFlushed = true
  · rw [ackFlushStep, if_pos hf, ackFlushStep, if_pos (h.txFlushed_eq.trans hf)]
    exact h.withMode .ackPost
  · rw [ackFlushStep, if_neg hf, ackFlushStep, if_neg (h.txFlushed_eq ▸ hf)]
    exact h

theorem sameOutcome_ackPostStep : SameOutcome (ackPostStep s) (ackPostStep t) :=
  { h with
    visible := congrArg (fun v : State =>
      ({ v with txEn := false, mode := .idle }.emit .txEnFall).respond opAck .done) h.visible }

theorem sameOutcome_engineStep : SameOutcome (engineStep s) (engineStep t) := by
  unfold engineStep
  rw [h.rst_eq, h.mode_eq]
  split
  · exact h
  · cases hm : s.mode with
    | idle => exact sameOutcome_idleStep h
    | polling => exact sameOutcome_pollStep h hm
    | ackPre => exact h.withMode .ackSend
    | ackSend => exact sameOutcome_ackSendStep h
    | ackFlush => exact sameOutcome_ackFlushStep h
    | ackPost => exact sameOutcome_ackPostStep h

/-! ### The other agents and the reset input -/

theorem sameVisible_hostTurn (r : Request) : SameVisible (hostTurn r s) (hostTurn r t) := by
  unfold hostTurn
  rw [h.hostReady_eq]
  split
  · exact h.present r
  · exact h

theorem sameVisible_dispatchTurn (v : Sensors) : SameVisible (dispatchTurn v s) (dispatchTurn v t) := by
  by_cases hs : s.hostReady = true
  · have hs' := h.hostReady_eq.trans hs
    cases hq : s.hostq with
    | cons r q =>
      rw [dispatchTurn_of_pending v hs hq, dispatchTurn_of_pending v hs' (h.hostq_eq.trans hq)]
      exact { h with visible := congrArg (fun u : State => { u with hostq := q }.present r) h.visible }
    | nil =>
      have hq' := h.hostq_eq.trans hq
      by_cases hp : ∃ cmd size, s.resp = some (.ready cmd size)
      · obtain ⟨cmd, size, hp⟩ := hp
        rw [dispatchTurn_of_ready v hs hq hp, dispatchTurn_of_ready v hs' hq' (h.resp_eq.trans hp)]
        exact { h with visible := congrArg (fun u : State => { u with
          hostq := dispatcherRequests u.hostParams v cmd size, resp := none }) h.visible }
      · have hno : ∀ c n, s.resp ≠ some (.ready c n) := fun c n hcn => hp ⟨c, n, hcn⟩
        rw [dispatchTurn_of_cycle v hs hq hno, dispatchTurn_of_cycle v hs' hq' (h.resp_eq ▸ hno)]
        exact h.present _
  · rw [dispatchTurn_of_not_ready v hs, dispatchTurn_of_not_ready v (h.hostReady_eq ▸ hs)]
    exact h

theorem sameVisible_configTurn (c : ConfigInputs) : SameVisible (configTurn c s) (configTurn c t) := by
  cases hr : s.rst with
  | true =>
    rw [configTurn_underReset c hr, configTurn_underReset c (h.rst_eq.trans hr)]
    exact { h with
      visible := congrArg (fun v : State => { v with cfg := { v.cfg with toConfigInputs := c } }) h.visible }
  | false =>
    have hr' := h.rst_eq.trans hr
    by_cases hc : c = s.cfg.toConfigInputs
    · rw [configTurn_same hr hc, configTurn_same hr' (h.cfg_eq ▸ hc)]
      exact h
    · rw [configTurn_changed hr hc, configTurn_changed hr' (h.cfg_eq ▸ hc)]
      exact h.refuse _

/-- After a reset only the values that R230 leaves free differ. -/
theorem SameVisible.applyReset : SameVisible s.applyReset t.applyReset where
  visible := congrArg State.applyReset h.visible
  csum := fun hne => absurd rfl hne
  candAddr := fun hne => absurd rfl hne
  cmdReg := fun hp => absurd hp (by decide : ¬ (psWFH = psWFS ∨ psWFH = psWFD ∨ psWFH = psWFK))
  sizeReg := fun hp => absurd hp (by decide : ¬ (psWFH = psWFD ∨ psWFH = psWFK))
  dcount := nofun
  dataBytes := nofun
  packetBytes := nofun
  accSize := nofun
  payload := nofun
  pushed := fun _ _ => rfl

theorem sameVisible_rstTurn (level : Bool) : SameVisible (rstTurn level s) (rstTurn level t) := by
  cases level <;> cases hr : s.rst <;> have hr' := h.rst_eq.trans hr
  · rw [rstTurn_low hr, rstTurn_low hr']
    exact h
  · rw [rstTurn_release hr, rstTurn_release hr']
    exact { h with
      visible := congrArg (fun v : State => { v with
        rst := false, refused := if v.cfg.addressLegal then v.refused else some .badConfig }) h.visible }
  · rw [rstTurn_assert hr, rstTurn_assert hr']
    exact h.applyReset
  · rw [rstTurn_again hr, rstTurn_again hr']
    exact h

theorem sameOutcome_agentMove (n : Turn) : SameOutcome (agentMove n s) (agentMove n t) := by
  cases n with
  | engine => exact sameOutcome_engineStep h
  | host r => exact sameVisible_hostTurn h r
  | dispatch v => exact sameVisible_dispatchTurn h v
  | rx b => exact { h with visible := congrArg (rxTurn b) h.visible }
  | txSend => exact { h with visible := congrArg txSendTurn h.visible }
  | flushed => exact { h with visible := congrArg flushedTurn h.visible }
  | rst level => exact sameVisible_rstTurn h level
  | config c => exact sameVisible_configTurn h c

theorem sameOutcome_takeTurn (n : Turn) : SameOutcome (takeTurn n s) (takeTurn n t) := by
  by_cases hn : ∃ level, n = .rst level
  · obtain ⟨level, rfl⟩ := hn
    exact sameVisible_rstTurn h level
  · cases hcv : s.cvFault with
    | some r =>
      rw [takeTurn_of_violation (not_exists.1 hn) hcv,
        takeTurn_of_violation (not_exists.1 hn) (h.cvFault_eq.trans hcv)]
      exact rfl
    | none =>
      cases href : s.refused with
      | some r =>
        rw [takeTurn_of_refusal (not_exists.1 hn) hcv href,
          takeTurn_of_refusal (not_exists.1 hn) (h.cvFault_eq.trans hcv) (h.refused_eq.trans href)]
        exact rfl
      | none =>
        rw [takeTurn_of_clean (not_exists.1 hn) ⟨hcv, href⟩,
          takeTurn_of_clean (not_exists.1 hn) ⟨h.cvFault_eq.trans hcv, h.refused_eq.trans href⟩]
        exact sameOutcome_agentMove h n

theorem sameOutcome_step : SameOutcome (step s) (step t) := by
  rw [step, step, h.nextTurn_eq]
  exact sameOutcome_takeTurn h.popTurn _

end

end Sys2Proof.Machine

namespace Sys2Proof.Proofs

open Sys2Proof Sys2Proof.Machine

/-- Settles O54: the operations read an unspecified element only where the packet or the window wrote it. -/
theorem unspecifiedValuesUnobservable : Obligations.UnspecifiedValuesUnobservable := by
  intro s t h
  have ho := sameOutcome_step h
  cases hs : step s <;> cases ht : step t <;> rw [hs, ht] at ho
  case next.next s' t' => exact ⟨ho, SameVisible.trace_eq ho⟩
  all_goals exact ho

end Sys2Proof.Proofs
end
